-- ==== Sys2Proof/Word.lean ====
section
/-! DEFINITION. The word types of the block, by the widths of `spec/00_scope.md` R6. -/

namespace Sys2Proof

/-- A field element or codeword symbol, 0..31 in 5 bits (R6, R110). -/
abbrev Sym := BitVec 5

/-- A decimal digit register, 4 bits (R6, R24). -/
abbrev Digit := BitVec 4

/-- A character code, 8 bits (R6, D10). -/
abbrev CharCode := BitVec 8

/-- A command word, 16 bits (R6, R90). -/
abbrev CmdWord := BitVec 16

/-- A value on the 64-bit host data path (R6, R63). -/
abbrev HostData := BitVec 64

/-- A host register index, 8 bits (R6, R60). -/
abbrev RegIndex := BitVec 8

end Sys2Proof
end

