-- ==== Sys2Proof/Syntax.lean ====
section
/-! DEFINITION. The commands of the block: one constructor per row of `spec/opcode_table.json`
(`spec/30_encoding.md` R93), operands as R92 takes them from the word. -/

namespace Sys2Proof

/-- The 22 commands, in the table's order. -/
inductive Instr where
  /-- `NOP` (R194). -/
  | nop
  /-- `GFADD a, b` (R117). -/
  | gfadd (a b : Sym)
  /-- `GFMUL a, b` (R118). -/
  | gfmul (a b : Sym)
  /-- `GFEXP a` (R119). -/
  | gfexp (a : Sym)
  /-- `GFLOG a` (R120). -/
  | gflog (a : Sym)
  /-- `SYMCH a` (R174). -/
  | symch (a : Sym)
  /-- `CHSYM c` (R175). -/
  | chsym (c : CharCode)
  /-- `PERMRD a` (R176). -/
  | permrd (a : Sym)
  /-- `IDTODEC` (R131). -/
  | idtodec
  /-- `DECTOID` (R132). -/
  | dectoid
  /-- `B10TO32` (R134). -/
  | b10to32
  /-- `B32TO10` (R135). -/
  | b32to10
  /-- `RSPAR` (R152). -/
  | rspar
  /-- `RSCHK` (R154). -/
  | rschk
  /-- `FMT` (R177). -/
  | fmt
  /-- `PBEGIN` (R178). -/
  | pbegin
  /-- `PUTC c` (R179). -/
  | putc (c : CharCode)
  /-- `PEND` (R180). -/
  | pend
  /-- `ENCODE` (R190). -/
  | encode
  /-- `DECODE` (R191). -/
  | decode
  /-- `DECODED` (R192). -/
  | decoded
  /-- `CLRST` (R193). -/
  | clrst
deriving DecidableEq, Repr

end Sys2Proof
end

