-- ==== Sys2Proof/WellFormed.lean ====
section
/-! DEFINITION. Which commands carry an operand the block accepts (`spec/30_encoding.md` R95). Every term of
`Instr` has an encoding and is a legal word; a term that is not well formed is a legal word whose operand the
command refuses with `Fault(IllegalOperand)`. -/

namespace Sys2Proof

/-- R95: the operand is accepted. Only `GFLOG 0` and `PERMRD a` with `a >= 17` are not. -/
def Instr.wellFormed : Instr → Bool
  | .nop => true
  | .gfadd _ _ => true
  | .gfmul _ _ => true
  | .gfexp _ => true
  | .gflog a => a != 0#5
  | .symch _ => true
  | .chsym _ => true
  | .permrd a => decide (a.toNat ≤ 16)
  | .idtodec => true
  | .dectoid => true
  | .b10to32 => true
  | .b32to10 => true
  | .rspar => true
  | .rschk => true
  | .fmt => true
  | .pbegin => true
  | .putc _ => true
  | .pend => true
  | .encode => true
  | .decode => true
  | .decoded => true
  | .clrst => true

end Sys2Proof
end

