-- ==== Sys2Proof/Decode.lean ====
section
/-! DEFINITION. The command decoder and encoder (`spec/30_encoding.md` R90 to R96, R99). Decoding is total on the
65536 words and depends on no state (R96); an illegal word is rejected by name. -/

namespace Sys2Proof

/-- Why a word is illegal (R94): both reasons are reported as the one fault `IllegalCommand`. -/
inductive DecodeError where
  /-- `op` is 0x16..0x1F. -/
  | reservedOp
  /-- A bit that the command's format marks "zero" is 1. -/
  | mustBeZero
deriving DecidableEq, Repr

/-- `op` is bits 15:11 in every format (R91). -/
def opField (w : CmdWord) : BitVec 5 := w.extractLsb' 11 5

/-- Format N: bits 10:0 must be zero (R91). -/
def decodeN (w : CmdWord) (i : Instr) : Except DecodeError Instr :=
  if w.extractLsb' 0 11 = 0#11 then .ok i else .error .mustBeZero

/-- Format A: bits 10:5 must be zero, `a = w[4:0]` (R91, R92). -/
def decodeA (w : CmdWord) (k : Sym → Instr) : Except DecodeError Instr :=
  if w.extractLsb' 5 6 = 0#6 then .ok (k (w.extractLsb' 0 5)) else .error .mustBeZero

/-- Format AB: bit 10 must be zero, `a = w[9:5]`, `b = w[4:0]` (R91, R92). -/
def decodeAB (w : CmdWord) (k : Sym → Sym → Instr) : Except DecodeError Instr :=
  if w.extractLsb' 10 1 = 0#1 then .ok (k (w.extractLsb' 5 5) (w.extractLsb' 0 5)) else .error .mustBeZero

/-- Format C: bits 10:8 must be zero, `c = w[7:0]` (R91, R92). -/
def decodeC (w : CmdWord) (k : CharCode → Instr) : Except DecodeError Instr :=
  if w.extractLsb' 8 3 = 0#3 then .ok (k (w.extractLsb' 0 8)) else .error .mustBeZero

/-- The decoder: R99's order (a reserved `op` before a must-be-zero bit), R93's opcode map. -/
def decode (w : CmdWord) : Except DecodeError Instr :=
  match (opField w).toNat with
  | 0x00 => decodeN w .nop
  | 0x01 => decodeAB w .gfadd
  | 0x02 => decodeAB w .gfmul
  | 0x03 => decodeA w .gfexp
  | 0x04 => decodeA w .gflog
  | 0x05 => decodeA w .symch
  | 0x06 => decodeC w .chsym
  | 0x07 => decodeA w .permrd
  | 0x08 => decodeN w .idtodec
  | 0x09 => decodeN w .dectoid
  | 0x0A => decodeN w .b10to32
  | 0x0B => decodeN w .b32to10
  | 0x0C => decodeN w .rspar
  | 0x0D => decodeN w .rschk
  | 0x0E => decodeN w .fmt
  | 0x0F => decodeN w .pbegin
  | 0x10 => decodeC w .putc
  | 0x11 => decodeN w .pend
  | 0x12 => decodeN w .encode
  | 0x13 => decodeN w .decode
  | 0x14 => decodeN w .decoded
  | 0x15 => decodeN w .clrst
  | _ => .error .reservedOp

/-- Format N as a word (R91). -/
def encodeN (op : BitVec 5) : CmdWord := op ++ 0#11

/-- Format A as a word (R91). -/
def encodeA (op : BitVec 5) (a : Sym) : CmdWord := op ++ 0#6 ++ a

/-- Format AB as a word (R91). -/
def encodeAB (op : BitVec 5) (a b : Sym) : CmdWord := op ++ 0#1 ++ a ++ b

/-- Format C as a word (R91). -/
def encodeC (op : BitVec 5) (c : CharCode) : CmdWord := op ++ 0#3 ++ c

/-- The encoder: the one word of each command (R93). -/
def encode : Instr → CmdWord
  | .nop => encodeN 0x00#5
  | .gfadd a b => encodeAB 0x01#5 a b
  | .gfmul a b => encodeAB 0x02#5 a b
  | .gfexp a => encodeA 0x03#5 a
  | .gflog a => encodeA 0x04#5 a
  | .symch a => encodeA 0x05#5 a
  | .chsym c => encodeC 0x06#5 c
  | .permrd a => encodeA 0x07#5 a
  | .idtodec => encodeN 0x08#5
  | .dectoid => encodeN 0x09#5
  | .b10to32 => encodeN 0x0A#5
  | .b32to10 => encodeN 0x0B#5
  | .rspar => encodeN 0x0C#5
  | .rschk => encodeN 0x0D#5
  | .fmt => encodeN 0x0E#5
  | .pbegin => encodeN 0x0F#5
  | .putc c => encodeC 0x10#5 c
  | .pend => encodeN 0x11#5
  | .encode => encodeN 0x12#5
  | .decode => encodeN 0x13#5
  | .decoded => encodeN 0x14#5
  | .clrst => encodeN 0x15#5

/-- A row of R93's table: a word `w` selects the command when `w and mask = word`. -/
structure OpcodeRow where
  word : CmdWord
  mask : CmdWord
deriving DecidableEq, Repr

/-- The row of R93 that each command belongs to, as the table prints it (written from the table's own columns,
not from the formats above). -/
def opcodeRow : Instr → OpcodeRow
  | .nop => ⟨0x0000, 0xFFFF⟩
  | .gfadd _ _ => ⟨0x0800, 0xFC00⟩
  | .gfmul _ _ => ⟨0x1000, 0xFC00⟩
  | .gfexp _ => ⟨0x1800, 0xFFE0⟩
  | .gflog _ => ⟨0x2000, 0xFFE0⟩
  | .symch _ => ⟨0x2800, 0xFFE0⟩
  | .chsym _ => ⟨0x3000, 0xFF00⟩
  | .permrd _ => ⟨0x3800, 0xFFE0⟩
  | .idtodec => ⟨0x4000, 0xFFFF⟩
  | .dectoid => ⟨0x4800, 0xFFFF⟩
  | .b10to32 => ⟨0x5000, 0xFFFF⟩
  | .b32to10 => ⟨0x5800, 0xFFFF⟩
  | .rspar => ⟨0x6000, 0xFFFF⟩
  | .rschk => ⟨0x6800, 0xFFFF⟩
  | .fmt => ⟨0x7000, 0xFFFF⟩
  | .pbegin => ⟨0x7800, 0xFFFF⟩
  | .putc _ => ⟨0x8000, 0xFF00⟩
  | .pend => ⟨0x8800, 0xFFFF⟩
  | .encode => ⟨0x9000, 0xFFFF⟩
  | .decode => ⟨0x9800, 0xFFFF⟩
  | .decoded => ⟨0xA000, 0xFFFF⟩
  | .clrst => ⟨0xA800, 0xFFFF⟩

/-- The instruction the decoder reads from the word whose low `nbits` bits are `w`, the rest zero. A command is one
16-bit word, handed over whole, so there is no byte order to apply (R68, R90). -/
def decodeTableWord (nbits w : Nat) : Option Instr :=
  (decode (BitVec.ofNat 16 (w % 2 ^ nbits))).toOption

end Sys2Proof
end

