-- ==== Sys2Proof/Config.lean ====
section
/-! DEFINITION. What the spec leaves open and the model keeps FREE: opaque constants, each applied to a plain
counter of State. Nothing in Lean can evaluate one or prove a value of it. DESIGN CHOICE (entry 17): a constant sees
the counter alone and not which instance or run draws, so equal counters draw equal values. -/

namespace Sys2Proof

/-- The hidden storage of the sequencer (R46): `WK[0..19]`, `WKLEN`, `ACC`, `T[0..19]` and the loop indices of
the pseudocode. No host access reaches it. R46 gives the loop indices no width, so they are numbers. -/
structure Scratch where
  wk : Vector (BitVec 5) 20
  wkLen : BitVec 5
  acc : BitVec 9
  t : Vector (BitVec 4) 20
  i : Nat
  j : Nat
  m : Nat
  n : Nat
deriving DecidableEq, Repr, Inhabited

namespace Config

/-- The contents of the hidden scratch at the n-th time it became unspecified (R46, R48, U2). Entry 4. -/
opaque freeScratch : Nat → Scratch

/-- The value that the n-th free draw gives a host read of a reserved index: "any 64-bit value" (R64, U3).
Entry 3. -/
opaque freeRead : Nat → HostData

/-- The parameter `RESET_DATA` (R7, R48): at the n-th free draw, what the data register at a host index holds
after a reset of a running machine, before truncation to the register's width. Entry 2. -/
opaque resetData : Nat → RegIndex → HostData

end Config

end Sys2Proof
end

