-- ==== Sys2Proof/Machine/State.lean ====
section
/-! DEFINITION. The state of one RS32 codec block (`spec/10_state.md`), plain data, with the reasons a step can stop
(none) and the state right after reset. -/

namespace Sys2Proof.Machine

/-- The registers of the host's register space (R61), each under its own name. `syn i` is `SYN[i + 1]`. -/
inductive Reg where
  | cmd
  | status
  | res
  | id
  | dflt
  | decLen
  | b32Len
  | p (k : Fin 4)
  | syn (i : Fin 4)
  | dec (i : Fin 20)
  | cw (k : Fin 17)
  | str (n : Fin 20)
deriving DecidableEq, Repr

/-- What the host can do to the block (R20, R240): a read or a write of one register index, or a pulse of the
reset input. -/
inductive HostEvent where
  | read (idx : RegIndex)
  | write (idx : RegIndex) (v : HostData)
  | reset
deriving DecidableEq, Repr

/-- Ways the machine stops with a fault: there are none. What the spec calls a fault (R213) is a value of
`STATUS.FAULT` in a next state, and the block goes on answering reads (R214). Safe. Entry 12. -/
inductive Fault where
deriving DecidableEq, Repr

/-- Ways the machine refuses an instruction. -/
inductive Refusal where
  /-- Raised only by `exec`'s arm of an instruction that has no meaning yet; every arm has its meaning, so
  nothing raises it. Safe. -/
  | notModelled (mnemonic : String)
deriving DecidableEq, Repr

/-- Everything the spec gives the block, and the four fields that are the model's own (the last four). -/
structure State where
  /-- `CMD`, the last command word stored (R32). -/
  cmd : CmdWord
  /-- `STATUS`, read-only to the host (R33); its fields are in `Machine/Flags.lean`. -/
  status : BitVec 16
  /-- `ID` (R22). -/
  id : BitVec 64
  /-- `DFLT` (R23). -/
  dflt : BitVec 64
  /-- `DECLEN` (R24). -/
  decLen : BitVec 5
  /-- `DEC[0..19]`, most significant digit first (R24, R68). -/
  dec : Vector Digit 20
  /-- `B32LEN` (R26). -/
  b32Len : BitVec 4
  /-- `CW[0..16]`, data 0..12 least significant first, parity 13..16 (R25, R68). -/
  cw : Vector Sym 17
  /-- `P[0..3]` (R29). -/
  p : Vector Sym 4
  /-- `SYN[1..4]`; entry `i` is `SYN[i + 1]` (R30). -/
  syn : Vector Sym 4
  /-- `STR[0..19]`, leftmost character first (R31, R68). -/
  str : Vector CharCode 20
  /-- `RES` (R28). -/
  res : BitVec 8
  /-- The model's: host events issued and not yet performed, oldest first (R70, R73). Entry 5. -/
  pending : List HostEvent
  /-- The model's: the values `HostRead` has returned, newest first (R64). Entry 6. -/
  returned : List HostData
  /-- The model's: how many free values have been drawn. Entries 2 and 3. -/
  draws : Nat
  /-- The model's: which free contents the hidden scratch holds (R46). Entry 4. -/
  scratchEpoch : Nat
deriving DecidableEq, Repr

/-- The hidden scratch (R46): free contents, fixed by nothing but the counter. Entry 4. -/
def State.scratch (s : State) : Scratch := Config.freeScratch s.scratchEpoch

/-- The block right after reset (R48, R241): `CMD` and `STATUS` are 0. The data registers are `RESET_DATA`, which
the spec leaves open; the zeros here are the model's DESIGN CHOICE (unsafe, entry 1), the same for
every instance (entry 17). The model's own fields start
empty (entries 2 to 6). -/
def State.reset : State where
  cmd := 0x0000#16
  status := 0x0000#16
  id := 0#64
  dflt := 0#64
  decLen := 0#5
  dec := Vector.replicate 20 0#4
  b32Len := 0#4
  cw := Vector.replicate 17 0#5
  p := Vector.replicate 4 0#5
  syn := Vector.replicate 4 0#5
  str := Vector.replicate 20 0#8
  res := 0#8
  pending := []
  returned := []
  draws := 0
  scratchEpoch := 0

end Sys2Proof.Machine
end

