-- ==== Sys2Proof/Machine/Flags.lean ====
section
/-! DEFINITION. The fields of `STATUS` (`spec/10_state.md` R33 to R40): where each lies in the word, how one is
written without touching the other bits, and the codes of tags (R212) and faults (R213). No operation writes bits
4 (`BUSY`), 7 and 15:13, which read 0 (R37, R40; entry 11). -/

namespace Sys2Proof.Machine

/-- The word `w` with its `n` bits from bit `lo` up replaced by `v`, every other bit kept. -/
def setField (w : BitVec 16) (lo n : Nat) (v : BitVec n) : BitVec 16 :=
  (w &&& ~~~((BitVec.allOnes n).setWidth 16 <<< lo)) ||| (v.setWidth 16 <<< lo)

/-- `STATUS.TAG`, bits 1:0. -/
def State.tag (s : State) : BitVec 2 := s.status.extractLsb' 0 2

/-- `STATUS.VALID`, bit 2. -/
def State.valid (s : State) : BitVec 1 := s.status.extractLsb' 2 1

/-- `STATUS.OVF`, bit 3. -/
def State.ovf (s : State) : BitVec 1 := s.status.extractLsb' 3 1

/-- `STATUS.BUSY`, bit 4: always reads 0 (R37). -/
def State.busy (s : State) : BitVec 1 := s.status.extractLsb' 4 1

/-- `STATUS.FAULT`, bits 6:5. -/
def State.fault (s : State) : BitVec 2 := s.status.extractLsb' 5 2

/-- `STATUS.CNT`, bits 12:8. -/
def State.cnt (s : State) : BitVec 5 := s.status.extractLsb' 8 5

/-- The result kinds of decoding (R34, R212). -/
inductive Tag where
  | success
  | codewordTooLong
  | codewordInvalid
deriving DecidableEq, Repr

/-- The code of a tag in `STATUS.TAG` (R212); 3 is no tag's. -/
def tagCode : Tag → BitVec 2
  | .success => 0
  | .codewordTooLong => 1
  | .codewordInvalid => 2

/-- The kinds of interface misuse (R213). -/
inductive FaultKind where
  | illegalCommand
  | illegalOperand
  | illegalAccess
deriving DecidableEq, Repr

/-- The code of a fault in `STATUS.FAULT` (R213); 0 is "none". -/
def faultCode : FaultKind → BitVec 2
  | .illegalCommand => 1
  | .illegalOperand => 2
  | .illegalAccess => 3

/-- `VALID` as it is computed from the four syndromes: 1 when all are 0 (R35, R154). -/
def validFlag (syn : Vector Sym 4) : BitVec 1 := BitVec.ofBool (syn.toList.all (· == 0#5))

/-- `OVF` as `DECTOID` computes it: 1 when the value is 2^64 or more (R36, R132). -/
def ovfFlag (v : Nat) : BitVec 1 := BitVec.ofBool (decide (2 ^ 64 ≤ v))

end Sys2Proof.Machine
end

