-- ==== Sys2Proof/Machine/Ops.lean ====
section
/-! DEFINITION. The named operations over the registers: one update per register, the two ways a command reports
(`signal Tag`, `raise Fault`: `spec/00_scope.md` section 6.2, `spec/60_exceptions.md`), the register space of
`spec/20_memory.md` R61, and reset (`spec/70_reset_and_hazards.md` R240, R241). -/

namespace Sys2Proof.Machine

/-! ### One update per register -/

/-- `CMD <- w`. -/
def State.setCmd (s : State) (w : CmdWord) : State := { s with cmd := w }

/-- `STATUS <- w`, the whole word; the fields below go through it. -/
def State.setStatus (s : State) (w : BitVec 16) : State := { s with status := w }

/-- `ID <- v`. -/
def State.setId (s : State) (v : BitVec 64) : State := { s with id := v }

/-- `DFLT <- v`. -/
def State.setDflt (s : State) (v : BitVec 64) : State := { s with dflt := v }

/-- `DECLEN <- n`. -/
def State.setDecLen (s : State) (n : BitVec 5) : State := { s with decLen := n }

/-- `DEC[0..19] <- d`. -/
def State.setDec (s : State) (d : Vector Digit 20) : State := { s with dec := d }

/-- `B32LEN <- n`. -/
def State.setB32Len (s : State) (n : BitVec 4) : State := { s with b32Len := n }

/-- `CW[0..16] <- code`. -/
def State.setCw (s : State) (code : Vector Sym 17) : State := { s with cw := code }

/-- `P[0..3] <- v`. -/
def State.setP (s : State) (v : Vector Sym 4) : State := { s with p := v }

/-- `SYN[1..4] <- v`. -/
def State.setSyn (s : State) (v : Vector Sym 4) : State := { s with syn := v }

/-- `STR[0..19] <- v`. -/
def State.setStr (s : State) (v : Vector CharCode 20) : State := { s with str := v }

/-- `RES <- v`. -/
def State.setRes (s : State) (v : BitVec 8) : State := { s with res := v }

/-- `STATUS.TAG <- t`. -/
def State.setTag (s : State) (t : BitVec 2) : State := s.setStatus (setField s.status 0 2 t)

/-- `STATUS.VALID <- b`. -/
def State.setValid (s : State) (b : BitVec 1) : State := s.setStatus (setField s.status 2 1 b)

/-- `STATUS.OVF <- b`. -/
def State.setOvf (s : State) (b : BitVec 1) : State := s.setStatus (setField s.status 3 1 b)

/-- `STATUS.FAULT <- k`. -/
def State.setFault (s : State) (k : BitVec 2) : State := s.setStatus (setField s.status 5 2 k)

/-- `STATUS.CNT <- n`. -/
def State.setCnt (s : State) (n : BitVec 5) : State := s.setStatus (setField s.status 8 5 n)

/-- The value a `HostRead` returns to the host (R64, entry 6). -/
def State.giveBack (s : State) (v : HostData) : State := { s with returned := v :: s.returned }

/-- One free value has been drawn (entries 2 and 3). -/
def State.countDraw (s : State) : State := { s with draws := s.draws + 1 }

/-- The hidden scratch now holds unspecified contents anew (R46, U2; entry 4). -/
def State.freshScratch (s : State) : State := { s with scratchEpoch := s.scratchEpoch + 1 }

/-! ### Reporting: the block's exception entry (R211, R213, R216) and return (R217) -/

/-- `signal Tag(t)`: writes `STATUS.TAG` and nothing else (R211). The return is `PBEGIN`, `CLRST` or reset. -/
def signalTag (t : Tag) (s : State) : State := s.setTag (tagCode t)

/-- `raise Fault(k)`: writes `STATUS.FAULT` and nothing else (R213); the first fault sticks (R38, R214). The
return is reset alone. -/
def raiseFault (k : FaultKind) (s : State) : State :=
  if s.fault = 0#2 then s.setFault (faultCode k) else s

/-! ### The register space (R61) -/

/-- The host index of a register (R61). -/
def regIndex : Reg → RegIndex
  | .cmd => 0x00
  | .status => 0x01
  | .res => 0x02
  | .id => 0x03
  | .dflt => 0x04
  | .decLen => 0x05
  | .b32Len => 0x06
  | .p k => BitVec.ofNat 8 (0x08 + k.val)
  | .syn i => BitVec.ofNat 8 (0x0B + (i.val + 1))
  | .dec i => BitVec.ofNat 8 (0x10 + i.val)
  | .cw k => BitVec.ofNat 8 (0x30 + k.val)
  | .str n => BitVec.ofNat 8 (0x50 + n.val)

/-- The register at a host index, or none at a reserved index (R61, R67). -/
def regAt (idx : RegIndex) : Option Reg :=
  let x := idx.toNat
  if x = 0x00 then some .cmd
  else if x = 0x01 then some .status
  else if x = 0x02 then some .res
  else if x = 0x03 then some .id
  else if x = 0x04 then some .dflt
  else if x = 0x05 then some .decLen
  else if x = 0x06 then some .b32Len
  else if h : 0x08 ≤ x ∧ x ≤ 0x0B then some (.p ⟨x - 0x08, by omega⟩)
  else if h : 0x0C ≤ x ∧ x ≤ 0x0F then some (.syn ⟨x - 0x0B - 1, by omega⟩)
  else if h : 0x10 ≤ x ∧ x ≤ 0x23 then some (.dec ⟨x - 0x10, by omega⟩)
  else if h : 0x30 ≤ x ∧ x ≤ 0x40 then some (.cw ⟨x - 0x30, by omega⟩)
  else if h : 0x50 ≤ x ∧ x ≤ 0x63 then some (.str ⟨x - 0x50, by omega⟩)
  else none

/-- The width of a register in bits (R61). -/
def regWidth : Reg → Nat
  | .cmd => 16
  | .status => 16
  | .res => 8
  | .id => 64
  | .dflt => 64
  | .decLen => 5
  | .b32Len => 4
  | .p _ => 5
  | .syn _ => 5
  | .dec _ => 4
  | .cw _ => 5
  | .str _ => 8

/-- "RW" in R61: the host may write the register. -/
def regWritable : Reg → Bool
  | .cmd => true
  | .status => false
  | .res => false
  | .id => true
  | .dflt => true
  | .decLen => true
  | .b32Len => false
  | .p _ => false
  | .syn _ => false
  | .dec _ => true
  | .cw _ => true
  | .str _ => false

/-- `zext_64(R)`: a register as the host port reads it (R64). -/
def readReg (s : State) : Reg → HostData
  | .cmd => s.cmd.setWidth 64
  | .status => s.status.setWidth 64
  | .res => s.res.setWidth 64
  | .id => s.id
  | .dflt => s.dflt
  | .decLen => s.decLen.setWidth 64
  | .b32Len => s.b32Len.setWidth 64
  | .p k => s.p[k].setWidth 64
  | .syn i => s.syn[i].setWidth 64
  | .dec i => s.dec[i].setWidth 64
  | .cw k => s.cw[k].setWidth 64
  | .str n => s.str[n].setWidth 64

/-- `R <- v[w-1:0]` for a register of width `w` that the host may write (R65). A read-only register is left alone;
`HostWrite` never gets here with one. -/
def writeReg (s : State) (r : Reg) (v : HostData) : State :=
  match r with
  | .cmd => s.setCmd (v.setWidth 16)
  | .id => s.setId v
  | .dflt => s.setDflt v
  | .decLen => s.setDecLen (v.setWidth 5)
  | .dec i => s.setDec (s.dec.set i (v.setWidth 4))
  | .cw k => s.setCw (s.cw.set k (v.setWidth 5))
  | .status => s
  | .res => s
  | .b32Len => s
  | .p _ => s
  | .syn _ => s
  | .str _ => s

/-! ### Reset -/

/-- A pulse of the reset input on a running block (R240, R241): `CMD` and `STATUS` are 0, every data register and
the hidden scratch hold unspecified values of their width, drawn free (entry 2). The spec leaves open
whether the contents of separate instances are related (R7, R48, R232); here two instances, or two runs, with equal
`draws` draw the same contents: DESIGN CHOICE, unsafe (entry 17). What the host has already been
given and what it has issued behind the pulse are the host's and stay (entry 8). -/
def resetBlock (s : State) : State where
  cmd := 0x0000#16
  status := 0x0000#16
  id := Config.resetData s.draws (regIndex .id)
  dflt := Config.resetData s.draws (regIndex .dflt)
  decLen := (Config.resetData s.draws (regIndex .decLen)).setWidth 5
  dec := Vector.ofFn fun i => (Config.resetData s.draws (regIndex (.dec i))).setWidth 4
  b32Len := (Config.resetData s.draws (regIndex .b32Len)).setWidth 4
  cw := Vector.ofFn fun k => (Config.resetData s.draws (regIndex (.cw k))).setWidth 5
  p := Vector.ofFn fun k => (Config.resetData s.draws (regIndex (.p k))).setWidth 5
  syn := Vector.ofFn fun i => (Config.resetData s.draws (regIndex (.syn i))).setWidth 5
  str := Vector.ofFn fun n => (Config.resetData s.draws (regIndex (.str n))).setWidth 8
  res := (Config.resetData s.draws (regIndex .res)).setWidth 8
  pending := s.pending
  returned := s.returned
  draws := s.draws + 1
  scratchEpoch := s.scratchEpoch + 1

end Sys2Proof.Machine
end

