-- ==== Sys2Proof/Machine/Rom.lean ====
section
/-! DEFINITION. The ROM of the block (`spec/10_state.md` R41 to R45): constants, valid from reset and never written
(R21, R242), and the ways the sequencer reads them. Entry 13 says which entries the spec itself supplies from
general knowledge. -/

namespace Sys2Proof.Machine

/-- `ANTILOG[0..31]` (R41). -/
def antilogTable : Vector Sym 32 :=
  #v[1, 2, 4, 8, 16, 5, 10, 20, 13, 26, 17, 7, 14, 28, 29, 31,
     27, 19, 3, 6, 12, 24, 21, 15, 30, 25, 23, 11, 22, 9, 18, 1]

/-- `LOG[1..31]` (R42); the entry for `a` stands at place `a - 1`. -/
def logTable : Vector Sym 31 :=
  #v[0, 1, 18, 2, 5, 19, 11, 3, 29, 6, 27, 20, 8, 12, 23, 4,
     10, 30, 17, 7, 22, 28, 26, 21, 25, 9, 16, 13, 14, 24, 15]

/-- `ALPHA[0..31]` (R43): the codes of `23456789ABCDEFGHJKLMNPQRSTUVWXYZ`. -/
def alphaTable : Vector CharCode 32 :=
  #v[0x32, 0x33, 0x34, 0x35, 0x36, 0x37, 0x38, 0x39, 0x41, 0x42, 0x43, 0x44, 0x45, 0x46, 0x47, 0x48,
     0x4A, 0x4B, 0x4C, 0x4D, 0x4E, 0x50, 0x51, 0x52, 0x53, 0x54, 0x55, 0x56, 0x57, 0x58, 0x59, 0x5A]

/-- `SEP`, the separator `-` (R43). -/
def sepCode : CharCode := 0x2D#8

/-- `PERM[0..16]` (R44): display position to logical position. Its 5-bit entries are all below 17, so they are
held as positions. -/
def permTable : Vector (Fin 17) 17 :=
  #v[3, 2, 1, 0, 7, 6, 5, 4, 13, 14, 15, 16, 12, 8, 9, 10, 11]

/-- `GEN[0..3]` (R45). -/
def genTable : Vector Sym 4 := #v[17, 9, 6, 30]

/-- `ANTILOG[n]` for an index 0..31. -/
def antilog (n : BitVec 5) : Sym := antilogTable[n.toNat]'n.isLt

/-- `ANTILOG[e mod 31]` (R115, R153). -/
def antilogMod (e : Nat) : Sym := antilogTable[e % 31]'(Nat.lt_trans (Nat.mod_lt e (by decide)) (by decide))

/-- `LOG[a]`; there is no entry for 0 (R42, R114). -/
def logOf (a : Sym) : Option Sym := if a = 0#5 then none else logTable[a.toNat - 1]?

/-- `ALPHA[s]`. -/
def alpha (s : Sym) : CharCode := alphaTable[s.toNat]'s.isLt

/-- `PERM[d]`. -/
def perm (d : Fin 17) : Fin 17 := permTable[d]

/-- `index_of(c)` (R173): the symbol whose character is `c`, if there is one. -/
def indexOf (c : CharCode) : Option Sym := (alphaTable.toList.findIdx? (· == c)).map (BitVec.ofNat 5)

end Sys2Proof.Machine
end

