-- ==== Sys2Proof/Machine/Operands.lean ====
section
/-! DEFINITION. The operands that commands read implicitly from registers, and how a result goes into `RES`.
(The operand fields of the word are in `Decode.lean`, R91 and R92: no command takes a register number.) -/

namespace Sys2Proof.Machine

/-- The value of a digit sequence held most significant digit first: `d[0]*B^(n-1) + ... + d[n-1]`
(`decval` for base 10, `spec/00_scope.md` section 6.3, R130). -/
def valMsf (base : Nat) (ds : List Nat) : Nat := ds.foldl (fun v d => v * base + d) 0

/-- `DEC[0..DECLEN-1]`, the decimal operand, as numbers (R24). -/
def decDigits (s : State) : List Nat := (s.dec.toList.take s.decLen.toNat).map BitVec.toNat

/-- The legality of the decimal operand (R24): `1 <= DECLEN <= 20` and every digit in use at most 9. -/
def decLegal (s : State) : Bool :=
  decide (1 ≤ s.decLen.toNat) && decide (s.decLen.toNat ≤ 20) && (decDigits s).all (· ≤ 9)

/-- `decval(DEC, DECLEN)` (R130). -/
def decValue (s : State) : Nat := valMsf 10 (decDigits s)

/-- `CW[0..12]`, the data symbols, least significant first (R25). -/
def dataSymbols (code : Vector Sym 17) : List Sym := code.toList.take 13

/-- `CW[12], ..., CW[0]` as numbers, most significant first, as the sequencer holds them (R68 (c)). -/
def dataDigitsMsf (code : Vector Sym 17) : List Nat := ((dataSymbols code).map BitVec.toNat).reverse

/-- `cwval(CW)` (R130). -/
def cwValue (code : Vector Sym 17) : Nat := valMsf 32 (dataDigitsMsf code)

/-- `RES <- zext_8(x)` for a field element or position (R28). -/
def writeResSym (x : Sym) (s : State) : State := s.setRes (x.setWidth 8)

/-- Writes a decimal sequence given most significant digit first: its length, its digits, and 0 into every padding
entry (R24, R131, R135). -/
def writeDecimal (ds : List Nat) (s : State) : State :=
  (s.setDecLen (BitVec.ofNat 5 ds.length)).setDec (Vector.ofFn fun i => BitVec.ofNat 4 (ds.getD i.val 0))

end Sys2Proof.Machine
end

