-- ==== Sys2Proof/Machine/Gf32.lean ====
section
/-! DEFINITION. GF(32) arithmetic (`spec/40_gf32.md`): `GFADD`, `GFMUL`, `GFEXP`, `GFLOG`. -/

namespace Sys2Proof.Machine

/-- `gmul(a, b)` (R115): 0 if either operand is 0, else `ANTILOG[(LOG[a] + LOG[b]) mod 31]`. -/
def gmul (a b : Sym) : Sym :=
  match logOf a, logOf b with
  | some x, some y => antilogMod (x.toNat + y.toNat)
  | _, _ => 0#5

/-- `GFADD a, b` (R117). -/
def execGfadd (a b : Sym) (s : State) : Host.Outcome State Fault Refusal := .next (writeResSym (a ^^^ b) s)

/-- `GFMUL a, b` (R118). -/
def execGfmul (a b : Sym) (s : State) : Host.Outcome State Fault Refusal := .next (writeResSym (gmul a b) s)

/-- `GFEXP a` (R119). -/
def execGfexp (a : Sym) (s : State) : Host.Outcome State Fault Refusal := .next (writeResSym (antilog a) s)

/-- `GFLOG a` (R120): the logarithm of 0 raises `Fault(IllegalOperand)`. -/
def execGflog (a : Sym) (s : State) : Host.Outcome State Fault Refusal :=
  match logOf a with
  | none => .next (raiseFault .illegalOperand s)
  | some x => .next (writeResSym x s)

end Sys2Proof.Machine
end

