-- ==== Sys2Proof/Machine/Codeword.lean ====
section
/-! DEFINITION. Codeword construction and validation (`spec/42_codeword.md`): `RSPAR`, `RSCHK`. -/

namespace Sys2Proof.Machine

/-- `lfsr_step(P, s)` (R151), as the simultaneous update; `GEN[k]` feeds stage `k` (R45, C8). -/
def lfsrStep (p : Vector Sym 4) (x : Sym) : Vector Sym 4 :=
  let fb := x ^^^ p[3]
  #v[gmul genTable[0] fb, p[0] ^^^ gmul genTable[1] fb, p[1] ^^^ gmul genTable[2] fb, p[2] ^^^ gmul genTable[3] fb]

/-- The parity register after the 13 data symbols, most significant first (R152). -/
def parityOf (code : Vector Sym 17) : Vector Sym 4 :=
  (dataSymbols code).reverse.foldl lfsrStep (Vector.replicate 4 0#5)

/-- `CW[13 + k] <- P[k]`, the data kept (R150, R152). -/
def writeParity (p : Vector Sym 4) (code : Vector Sym 17) : Vector Sym 17 :=
  Vector.ofFn fun k => if h : k.val < 13 then code[k] else p[k.val - 13]'(by omega)

/-- The effect of `RSPAR` (R152). -/
def rsPar (s : State) : State := (s.setP (parityOf s.cw)).setCw (writeParity (parityOf s.cw) s.cw)

/-- One term index `j` of `syndrome(i)` (R153): 13..26 are skipped, 0..12 are the data positions, 27..30 the parity
positions `j - 14`. -/
def syndromeTerm (code : Vector Sym 17) (i : Nat) (t : Sym) (j : Nat) : Sym :=
  if 13 ≤ j ∧ j ≤ 26 then t
  else t ^^^ gmul (code[if j ≤ 12 then j else j - 14]?.getD 0#5) (antilogMod (i * j))

/-- `syndrome(i)` (R153): the 31-term loop. -/
def syndrome (code : Vector Sym 17) (i : Nat) : Sym := (List.range 31).foldl (syndromeTerm code i) 0#5

/-- The four syndromes; entry `i` is `syndrome(i + 1)`. -/
def syndromes (code : Vector Sym 17) : Vector Sym 4 := Vector.ofFn fun i => syndrome code (i.val + 1)

/-- The check of R154: `SYN` and `VALID` written, nothing else. `PEND` runs the same check (R180). -/
def syndromeCheck (s : State) : State := (s.setSyn (syndromes s.cw)).setValid (validFlag (syndromes s.cw))

/-- `RSPAR` (R152). -/
def execRspar (s : State) : Host.Outcome State Fault Refusal := .next (rsPar s)

/-- `RSCHK` (R154). -/
def execRschk (s : State) : Host.Outcome State Fault Refusal := .next (syndromeCheck s)

end Sys2Proof.Machine
end

