-- ==== Sys2Proof/Machine/Alphabet.lean ====
section
/-! DEFINITION. Alphabet formatting (`spec/43_alphabet.md`): `SYMCH`, `CHSYM`, `PERMRD`, `FMT`, `PBEGIN`, `PUTC`,
`PEND`. -/

namespace Sys2Proof.Machine

/-- The characters of R177's loop at display position `d`: the symbol's character, and the separator after 3, 7
and 11. -/
def displayGroup (code : Vector Sym 17) (d : Fin 17) : List CharCode :=
  if d.val = 3 ∨ d.val = 7 ∨ d.val = 11 then [alpha code[perm d], sepCode] else [alpha code[perm d]]

/-- The display string of a codeword (R177). -/
def displayChars (code : Vector Sym 17) : List CharCode := (List.finRange 17).flatMap (displayGroup code)

/-- The effect of `FMT` (R177): all 20 characters are written. -/
def fmtStr (s : State) : State := s.setStr (Vector.ofFn fun n => (displayChars s.cw).getD n.val sepCode)

/-- The effect of `PBEGIN` (R178). -/
def pBegin (s : State) : State := ((s.setCnt 0#5).setTag (tagCode .success)).setCw (Vector.replicate 17 0#5)

/-- The effect of `PUTC c` (R179). A count of 18 or more, which no run reaches (R39), is treated as 17 (entry 9). -/
def putC (c : CharCode) (s : State) : State :=
  if s.tag ≠ 0#2 then s
  else
    match indexOf c with
    | none => s
    | some x =>
      if h : s.cnt.toNat < 17 then (s.setCw (s.cw.set (perm ⟨s.cnt.toNat, h⟩) x)).setCnt (s.cnt + 1#5)
      else signalTag .codewordTooLong s

/-- The effect of `PEND` (R180). -/
def pEnd (s : State) : State :=
  if s.tag ≠ 0#2 then s
  else if s.cnt ≠ 17#5 then signalTag .codewordInvalid s
  else if (syndromeCheck s).valid = 0#1 then signalTag .codewordInvalid (syndromeCheck s)
  else syndromeCheck s

/-- `SYMCH a` (R174). -/
def execSymch (a : Sym) (s : State) : Host.Outcome State Fault Refusal := .next (s.setRes (alpha a))

/-- `CHSYM c` (R175): 0xFF when the character is not in the alphabet. -/
def execChsym (c : CharCode) (s : State) : Host.Outcome State Fault Refusal :=
  match indexOf c with
  | some x => .next (writeResSym x s)
  | none => .next (s.setRes 0xFF#8)

/-- `PERMRD a` (R176): `a > 16` raises `Fault(IllegalOperand)`. -/
def execPermrd (a : Sym) (s : State) : Host.Outcome State Fault Refusal :=
  if h : a.toNat < 17 then .next (writeResSym (BitVec.ofNat 5 (perm ⟨a.toNat, h⟩).val) s)
  else .next (raiseFault .illegalOperand s)

/-- `FMT` (R177). -/
def execFmt (s : State) : Host.Outcome State Fault Refusal := .next (fmtStr s)

/-- `PBEGIN` (R178). -/
def execPbegin (s : State) : Host.Outcome State Fault Refusal := .next (pBegin s)

/-- `PUTC c` (R179). -/
def execPutc (c : CharCode) (s : State) : Host.Outcome State Fault Refusal := .next (putC c s)

/-- `PEND` (R180). -/
def execPend (s : State) : Host.Outcome State Fault Refusal := .next (pEnd s)

end Sys2Proof.Machine
end

