-- ==== Sys2Proof/Machine/BaseConv.lean ====
section
/-! DEFINITION. Base conversion (`spec/41_base_conversion.md`): `IDTODEC`, `DECTOID`, `B10TO32`, `B32TO10`. -/

namespace Sys2Proof.Machine

/-- The number of decimal digits of a value without leading zeros, 1 for 0, counting at most `fuel + 1`. -/
def decimalLengthUpTo : Nat → Nat → Nat
  | 0, _ => 1
  | fuel + 1, v => if v < 10 then 1 else decimalLengthUpTo fuel (v / 10) + 1

/-- The number of decimal digits of an identifier, 1..20 (R131). -/
def decimalLength (v : Nat) : Nat := decimalLengthUpTo 19 v

/-- The canonical decimal digits of an identifier, most significant first: digit `i` of `n` is
`(v div 10^(n-1-i)) mod 10` (R131). -/
def decimalDigits (v : Nat) : List Nat :=
  (List.range (decimalLength v)).map fun i => v / 10 ^ (decimalLength v - 1 - i) % 10

/-- The effect of `IDTODEC` (R131). -/
def idToDec (s : State) : State := writeDecimal (decimalDigits s.id.toNat) s

/-- The effect of `DECTOID` (R132). -/
def decToId (s : State) : State :=
  if decLegal s then (s.setId (BitVec.ofNat 64 (decValue s))).setOvf (ovfFlag (decValue s))
  else raiseFault .illegalOperand s

/-- One digit of the division pass (R133): the quotient digits stored so far (`WK[0..m-1]`) and `ACC`, with the
incoming digit. A leading zero of the quotient is not stored. -/
def divDigit (bin bout : Nat) (st : List Nat × Nat) (d : Nat) : List Nat × Nat :=
  let acc := st.2 * bin + d
  if bout ≤ acc then (st.1 ++ [acc / bout], acc % bout)
  else if st.1 = [] then ([], acc)
  else (st.1 ++ [0], acc)

/-- `divpass` (R133): the quotient sequence and the remainder of a digit sequence, most significant first, in base
`bin`, divided by `bout`. The in-place array of the pseudocode is the quotient list here (entry 16). -/
def divPass (bin bout : Nat) (wk : List Nat) : List Nat × Nat := wk.foldl (divDigit bin bout) ([], 0)

/-- The `repeat ... until L = 0` loop of R134 and R135: the remainders, least significant first. The fuel is R137's
bound on the passes. -/
def convertDigits (bin bout : Nat) : Nat → List Nat → List Nat
  | 0, _ => []
  | fuel + 1, wk =>
    match divPass bin bout wk with
    | ([], r) => [r]
    | (q, r) => r :: convertDigits bin bout fuel q

/-- `CW[0..12]` replaced by base-32 digits (least significant first, 0 beyond them), `CW[13..16]` kept (R134). -/
def writeData (ds : List Nat) (code : Vector Sym 17) : Vector Sym 17 :=
  Vector.ofFn fun k => if k.val < 13 then BitVec.ofNat 5 (ds.getD k.val 0) else code[k]

/-- The effect of `B10TO32` (R134): at most 13 passes. -/
def b10To32 (s : State) : State :=
  if decLegal s && decide (decValue s < 32 ^ 13) then
    (s.setCw (writeData (convertDigits 10 32 13 (decDigits s)) s.cw)).setB32Len
      (BitVec.ofNat 4 (convertDigits 10 32 13 (decDigits s)).length)
  else raiseFault .illegalOperand s

/-- The effect of `B32TO10` (R135): at most 20 passes, the digits reversed into `DEC`. -/
def b32To10 (s : State) : State := writeDecimal (convertDigits 32 10 20 (dataDigitsMsf s.cw)).reverse s

/-- `IDTODEC` (R131). -/
def execIdtodec (s : State) : Host.Outcome State Fault Refusal := .next (idToDec s)

/-- `DECTOID` (R132). -/
def execDectoid (s : State) : Host.Outcome State Fault Refusal := .next (decToId s)

/-- `B10TO32` (R134). -/
def execB10to32 (s : State) : Host.Outcome State Fault Refusal := .next (b10To32 s)

/-- `B32TO10` (R135). -/
def execB32to10 (s : State) : Host.Outcome State Fault Refusal := .next (b32To10 s)

end Sys2Proof.Machine
end

