-- ==== Sys2Proof/Machine/Codec.lean ====
section
/-! DEFINITION. Public operations and housekeeping (`spec/44_codec_ops.md`): `ENCODE`, `DECODE`, `DECODED`, `CLRST`,
`NOP`. -/

namespace Sys2Proof.Machine

/-- The effect of `ENCODE` (R190): `IDTODEC; B10TO32; RSPAR; FMT`. -/
def encodeId (s : State) : State := fmtStr (rsPar (b10To32 (idToDec s)))

/-- The effect of `DECODE` (R191): `PEND`; on success `B32TO10; DECTOID`. -/
def decodeCw (s : State) : State := if (pEnd s).tag ≠ 0#2 then pEnd s else decToId (b32To10 (pEnd s))

/-- The effect of `DECODED` (R192): `DECODE`; on failure the sentinel, and the tag cleared. -/
def decodeOrDefault (s : State) : State :=
  if (decodeCw s).tag ≠ 0#2 then ((decodeCw s).setId (decodeCw s).dflt).setTag (tagCode .success) else decodeCw s

/-- `ENCODE` (R190). -/
def execEncode (s : State) : Host.Outcome State Fault Refusal := .next (encodeId s)

/-- `DECODE` (R191). -/
def execDecode (s : State) : Host.Outcome State Fault Refusal := .next (decodeCw s)

/-- `DECODED` (R192). -/
def execDecoded (s : State) : Host.Outcome State Fault Refusal := .next (decodeOrDefault s)

/-- `CLRST` (R193). -/
def execClrst (s : State) : Host.Outcome State Fault Refusal :=
  .next ((s.setTag (tagCode .success)).setOvf 0#1)

/-- `NOP` (R194): nothing (the command word itself is stored by the write of `CMD`, R66). -/
def execNop (s : State) : Host.Outcome State Fault Refusal := .next s

end Sys2Proof.Machine
end

