-- ==== Sys2Proof/Machine/Dispatch.lean ====
section
/-! DEFINITION. Every instruction's meaning: the effect of the command's rule on the state in which `CMD` already
holds the word (R66, R99). Whether a command runs at all (the faulted state, R214) is decided by the host port,
`Machine/Port.lean` (entry 10). -/

namespace Sys2Proof.Machine

def exec (i : Instr) (s : State) : Host.Outcome State Fault Refusal :=
  match i with
  | .nop => Sys2Proof.Machine.execNop s
  | .gfadd a b => Sys2Proof.Machine.execGfadd a b s
  | .gfmul a b => Sys2Proof.Machine.execGfmul a b s
  | .gfexp a => Sys2Proof.Machine.execGfexp a s
  | .gflog a => Sys2Proof.Machine.execGflog a s
  | .symch a => Sys2Proof.Machine.execSymch a s
  | .chsym c => Sys2Proof.Machine.execChsym c s
  | .permrd a => Sys2Proof.Machine.execPermrd a s
  | .idtodec => Sys2Proof.Machine.execIdtodec s
  | .dectoid => Sys2Proof.Machine.execDectoid s
  | .b10to32 => Sys2Proof.Machine.execB10to32 s
  | .b32to10 => Sys2Proof.Machine.execB32to10 s
  | .rspar => Sys2Proof.Machine.execRspar s
  | .rschk => Sys2Proof.Machine.execRschk s
  | .fmt => Sys2Proof.Machine.execFmt s
  | .pbegin => Sys2Proof.Machine.execPbegin s
  | .putc c => Sys2Proof.Machine.execPutc c s
  | .pend => Sys2Proof.Machine.execPend s
  | .encode => Sys2Proof.Machine.execEncode s
  | .decode => Sys2Proof.Machine.execDecode s
  | .decoded => Sys2Proof.Machine.execDecoded s
  | .clrst => Sys2Proof.Machine.execClrst s

end Sys2Proof.Machine
end

