-- ==== Sys2Proof/Machine/Port.lean ====
section
/-! DEFINITION. The host port (`spec/20_memory.md`): `HostRead`, `HostWrite`, the running of a command by a write of
`CMD`, and one host event performed. -/

namespace Sys2Proof.Machine

/-- After a command the hidden scratch is unspecified anew (R46, U2; entry 4). -/
def afterCommand : Host.Outcome State Fault Refusal → Host.Outcome State Fault Refusal
  | .next t => .next t.freshScratch
  | .fault f => .fault f
  | .refused r => .refused r

/-- A write of `CMD` outside the faulted state (R66, R99): the word is stored, then decoded, and run when legal;
an illegal word raises `Fault(IllegalCommand)` and stays in `CMD`. -/
def runCommand (w : CmdWord) (s : State) : Host.Outcome State Fault Refusal :=
  match decode w with
  | .ok i => afterCommand (exec i (s.setCmd w))
  | .error _ => .next (raiseFault .illegalCommand (s.setCmd w))

/-- `HostRead(idx)` (R64): a defined register is returned zero-extended with no side effect, faulted or not; a
reserved index raises `Fault(IllegalAccess)` when no fault is recorded and returns a free value (U3, entry 3), the same
for two instances with equal `draws` (DESIGN CHOICE, entry 17). -/
def hostRead (idx : RegIndex) (s : State) : State :=
  match regAt idx with
  | some r => s.giveBack (readReg s r)
  | none => ((raiseFault .illegalAccess s).giveBack (Config.freeRead s.draws)).countDraw

/-- `HostWrite(idx, v)` (R65), its checks in the order of R215: the faulted state ignores the write; then the
legality of the access; then, for `CMD`, the command. -/
def hostWrite (idx : RegIndex) (v : HostData) (s : State) : Host.Outcome State Fault Refusal :=
  if s.fault ≠ 0#2 then .next s
  else
    match regAt idx with
    | none => .next (raiseFault .illegalAccess s)
    | some .cmd => runCommand (v.setWidth 16) s
    | some r => if regWritable r then .next (writeReg s r v) else .next (raiseFault .illegalAccess s)

/-- One host event performed, whole (R70). -/
def perform (e : HostEvent) (s : State) : Host.Outcome State Fault Refusal :=
  match e with
  | .read idx => .next (hostRead idx s)
  | .write idx v => hostWrite idx v s
  | .reset => .next (resetBlock s)

/-- The next event of the host, in the order issued (R73); with none the block is idle and nothing changes (R234,
entry 7). -/
def performNext (s : State) : Host.Outcome State Fault Refusal :=
  match s.pending with
  | [] => .next s
  | e :: rest => perform e { s with pending := rest }

/-- The host issues events: they wait behind those already issued (R73). -/
def issue (es : List HostEvent) (s : State) : State := { s with pending := s.pending ++ es }

/-- The write of `CMD` that a command word is (R66, R97). -/
def commandWrite (w : CmdWord) : HostEvent := .write 0x00#8 (w.setWidth 64)

/-- The write of `CMD` with an instruction's word placed so that it is the very next host event. -/
def issueFirst (w : CmdWord) (s : State) : State := { s with pending := commandWrite w :: s.pending }

end Sys2Proof.Machine
end

