-- ==== Sys2Proof/Machine/Step.lean ====
section
/-! DEFINITION. One step of the machine: one host event, performed whole (R70, R73). The block has no program counter
and fetches nothing (R27): a "program" is the list of events the host has issued. -/

namespace Sys2Proof.Machine

/-- One step. -/
def step (s : State) : Host.Outcome State Fault Refusal := performNext s

/-- The word whose low `nbits` bits are `w` issued as the next write of `CMD` (entry 5). Nothing else changes; in
the faulted state the block ignores it, as it ignores every write (R214). -/
def State.withFetchWord (s : State) (nbits w : Nat) : State := issueFirst (BitVec.ofNat 16 (w % 2 ^ nbits)) s

end Sys2Proof.Machine
end

