-- ==== Sys2Proof/Machine/Assembler.lean ====
section
/-! DEFINITION. The spec's assembler lines and pseudo-instructions (`spec/30_encoding.md` R97, R98), each as the host
events it stands for. -/

namespace Sys2Proof.Machine

/-- A line of the spec's syntax (R97): a command, `WR reg, value`, or `RD reg`. -/
inductive AsmLine where
  | cmd (i : Instr)
  | wr (r : Reg) (v : HostData)
  | rd (r : Reg)
deriving DecidableEq, Repr

/-- The one host access of a line (R97). -/
def asmEvent : AsmLine → HostEvent
  | .cmd i => commandWrite (encode i)
  | .wr r v => .write (regIndex r) v
  | .rd r => .read (regIndex r)

/-- The pseudo-instructions (R98); a string is the list of its character codes (D10). -/
inductive Pseudo where
  | puts (cs : List CharCode)
  | decstr (cs : List CharCode)
  | decstrd (cs : List CharCode)
  | encid (v : HostData)
  | wrdec (ds : List Nat)
  | rdstr
deriving DecidableEq, Repr

/-- R98's own condition: `WRDEC` takes 1 to 20 decimal digits. -/
def pseudoWellFormed : Pseudo → Bool
  | .puts _ => true
  | .decstr _ => true
  | .decstrd _ => true
  | .encid _ => true
  | .wrdec ds => decide (1 ≤ ds.length) && decide (ds.length ≤ 20) && ds.all (· ≤ 9)
  | .rdstr => true

/-- `PUTS` (R98). -/
def expandPuts (cs : List CharCode) : List AsmLine := cs.map fun c => .cmd (.putc c)

/-- The expansion of a pseudo-instruction into lines (R98). -/
def expandPseudo : Pseudo → List AsmLine
  | .puts cs => expandPuts cs
  | .decstr cs => .cmd .pbegin :: expandPuts cs ++ [.cmd .decode]
  | .decstrd cs => .cmd .pbegin :: expandPuts cs ++ [.cmd .decoded]
  | .encid v => [.wr .id v, .cmd .encode]
  | .wrdec ds =>
    .wr .decLen (BitVec.ofNat 64 ds.length)
      :: (ds.zip (List.finRange 20)).map fun di => .wr (.dec di.2) (BitVec.ofNat 64 di.1)
  | .rdstr => (List.finRange 20).map fun n => .rd (.str n)

end Sys2Proof.Machine
end

