-- ==== Sys2Proof/Machine/Platform.lean ====
section
/-! DEFINITION. A platform of `N_INSTANCES` blocks (`spec/00_scope.md` R7, `spec/20_memory.md` R78,
`spec/60_exceptions.md` R232): independent states; which instance moves next is the platform's own order. -/

namespace Sys2Proof.Machine

/-- The instances of a platform; their number is `N_INSTANCES` (entry 14). No rule makes one
an input of another, but their free values are one function of each instance's own counters (entry 17). -/
abbrev Platform := List State

/-- One step of instance `k`, the others as they were (R78). Without an instance `k` nothing moves. -/
def platformStep (k : Nat) (p : Platform) : Host.Outcome Platform Fault Refusal :=
  match p[k]? with
  | none => .next p
  | some s =>
    match step s with
    | .next t => .next (p.set k t)
    | .fault f => .fault f
    | .refused r => .refused r

end Sys2Proof.Machine
end

