-- ==== Sys2Proof/Safety.lean ====
section
/-! DEFINITION. What counts as a safe state and a safe run, and the spec's own quantities, written out from the spec
and not from the machine's operations, in which the statements are put. -/

namespace Sys2Proof.Machine

/-! ### Safe states and runs -/

/-- "A run has gone wrong exactly when it ends, or passes through a state, with `STATUS.FAULT` not 0" (R27, R214). -/
abbrev goneWrong (s : State) : Prop := s.fault ≠ 0#2

/-- `STATUS` as the spec says it always reads: no tag 3, `BUSY` and the reserved bits 0, at most 17 characters counted
(R34, R37, R39, R40). -/
abbrev statusLegal (s : State) : Prop :=
  s.tag ≠ 3#2 ∧ s.busy = 0#1 ∧ s.status.extractLsb' 7 1 = 0#1 ∧ s.status.extractLsb' 13 3 = 0#3 ∧ s.cnt.toNat ≤ 17

/-- `k` steps from `s` are safe: none of the states passed through has gone wrong (R27). -/
def runSafe (k : Nat) (s : State) : Prop :=
  ∀ j, j ≤ k → ∃ t, Host.Core.run Sys2Proof.core j s = .next t ∧ ¬ goneWrong t

/-- The meanings of a list of instructions one after another, stopping where one stops. -/
def execAll : List Instr → State → Host.Outcome State Fault Refusal
  | [], s => .next s
  | i :: is, s =>
    match exec i s with
    | .next t => execAll is t
    | .fault f => .fault f
    | .refused r => .refused r

/-! ### Command words and register indices, as R94 and R67 list them -/

/-- The commands of format N, by `op` (R93). -/
def opsN : List Nat := [0x00, 0x08, 0x09, 0x0A, 0x0B, 0x0C, 0x0D, 0x0E, 0x0F, 0x11, 0x12, 0x13, 0x14, 0x15]

/-- "A command word is illegal when (a) `op` is 0x16..0x1F, or (b) any bit its format marks zero is 1" (R94), with the
formats of R91 and R93. -/
abbrev illegalWord (w : CmdWord) : Prop :=
  0x16 ≤ (w >>> 11).toNat ∨
  ((w >>> 11).toNat ∈ opsN ∧ w &&& 0x07FF#16 ≠ 0#16) ∨
  ((w >>> 11).toNat ∈ [0x03, 0x04, 0x05, 0x07] ∧ w &&& 0x07E0#16 ≠ 0#16) ∨
  ((w >>> 11).toNat ∈ [0x01, 0x02] ∧ w &&& 0x0400#16 ≠ 0#16) ∨
  ((w >>> 11).toNat ∈ [0x06, 0x10] ∧ w &&& 0x0700#16 ≠ 0#16)

/-- The reserved indices: 0x07, 0x24..0x2F, 0x41..0x4F, 0x64..0xFF (R67). -/
abbrev reservedIndex (idx : RegIndex) : Prop :=
  idx = 0x07#8 ∨ (0x24 ≤ idx.toNat ∧ idx.toNat ≤ 0x2F) ∨ (0x41 ≤ idx.toNat ∧ idx.toNat ≤ 0x4F) ∨ 0x64 ≤ idx.toNat

/-- The indices of the read-only registers `STATUS`, `RES`, `B32LEN`, `P`, `SYN`, `STR` (R61, R67). -/
abbrev readOnlyIndex (idx : RegIndex) : Prop :=
  idx = 0x01#8 ∨ idx = 0x02#8 ∨ idx = 0x06#8 ∨ (0x08 ≤ idx.toNat ∧ idx.toNat ≤ 0x0F) ∨
    (0x50 ≤ idx.toNat ∧ idx.toNat ≤ 0x63)

/-! ### Arithmetic quantities -/

/-- The product of two elements as polynomials over GF(2), before reduction (R111, R116). -/
def carrylessProduct (a b : Sym) : BitVec 9 :=
  (List.range 5).foldl (fun t i => if b.getLsbD i then t ^^^ (a.setWidth 9 <<< i) else t) 0#9

/-- Reduction by `x^5 + x^2 + 1` (37), highest degree first (R111). -/
def reducePoly (x : BitVec 9) : Sym :=
  ([8, 7, 6, 5].foldl (fun t d => if t.getLsbD d then t ^^^ (37#9 <<< (d - 5)) else t) x).setWidth 5

/-- `decval(d, n)`, the sum of `d[i] * 10^(n-1-i)` over `i < n` (R130). -/
def decSum (n : Nat) (d : Vector Digit 20) : Nat :=
  ∑ i ∈ Finset.range n, (d[i]?.getD 0#4).toNat * 10 ^ (n - 1 - i)

/-- `cwval(CW)`, the sum of `CW[k] * 32^k` over `k <= 12` (R130). -/
def cwSum (code : Vector Sym 17) : Nat := ∑ k ∈ Finset.range 13, (code[k]?.getD 0#5).toNat * 32 ^ k

/-- Legal contents of `DEC` and `DECLEN` (R24). -/
abbrev decOperandLegal (s : State) : Prop :=
  1 ≤ s.decLen.toNat ∧ s.decLen.toNat ≤ 20 ∧ ∀ i : Fin 20, i.val < s.decLen.toNat → s.dec[i].toNat ≤ 9

/-- The pair `n`, `d` is the canonical decimal sequence of `v` (R24, R130): 1 to 20 digits, none above 9, value `v`,
no leading zero but for the single digit 0, padding 0. -/
abbrev canonicalDecimal (v : Nat) (n : BitVec 5) (d : Vector Digit 20) : Prop :=
  1 ≤ n.toNat ∧ n.toNat ≤ 20 ∧ (∀ i : Fin 20, i.val < n.toNat → d[i].toNat ≤ 9) ∧ decSum n.toNat d = v ∧
    (d[0] = 0#4 → v = 0 ∧ n = 1#5) ∧ ∀ i : Fin 20, n.toNat ≤ i.val → d[i] = 0#4

/-! ### Codewords and strings -/

/-- `pw(k)` (R153): the exponent of a codeword position. -/
def posExponent (k : Fin 17) : Nat := if k.val ≤ 12 then k.val else k.val + 14

/-- The 17-term sum of R153 with every exponent shifted by `shift` (R157); `syndrome(i)` is the sum with shift 0. -/
def syndromeSum (code : Vector Sym 17) (shift i : Nat) : Sym :=
  (List.finRange 17).foldl (fun t k => t ^^^ gmul code[k] (antilogMod (i * (posExponent k + shift)))) 0#5

/-- In how many of the 17 positions two codewords differ (R156). -/
def symbolDistance (code other : Vector Sym 17) : Nat := (List.finRange 17).countP fun k => code[k] != other[k]

/-- A recognized character is one in the alphabet (R43, R173). -/
def recognized (c : CharCode) : Bool := (alphaTable.toList).contains c

/-- The symbols of the recognized characters of a string, in order (R173, R179). -/
def recognizedSymbols (cs : List CharCode) : List Sym := cs.filterMap indexOf

/-- The commands `PBEGIN` and one `PUTC` for each character of a string. -/
def scan (cs : List CharCode) : List Instr := Instr.pbegin :: cs.map Instr.putc

/-- Two states agree on every register that some command reads (`ID`, `DFLT`, `DECLEN`, `DEC`, `CW`, `STATUS`): R22
to R26, R28 to R35 name the readers of each register, and no command reads `B32LEN`, `P`, `SYN`, `STR`, `RES`. -/
abbrev agreeOnRead (s t : State) : Prop :=
  s.id = t.id ∧ s.dflt = t.dflt ∧ s.decLen = t.decLen ∧ s.dec = t.dec ∧ s.cw = t.cw ∧ s.status = t.status

/-- Of two runs, from `s` to `t` and from `s'` to `t'`: the register `f` was written with one and the same value in
both, or it was left as it was in both. -/
def sameOrKept {α : Type} (f : State → α) (s s' t t' : State) : Prop := f t = f t' ∨ (f t = f s ∧ f t' = f s')

end Sys2Proof.Machine
end

