-- ==== Sys2Proof/Certificates/Slice0/Obligations.lean ====
section
/-! DEFINITION. The statements for the provers, from the numbered rules of `spec/`, file by file. A next state is
written `{ s with ... }`: every register not named there is unchanged, the model's own fields included (the frame).
`setField w lo n v` is `STATUS` with the `n` bits from `lo` replaced and every other bit kept. The block has no
byte-addressed memory (R60), so no statement has a memory clause. -/

open Sys2Proof Sys2Proof.Machine

/-! ### `30_encoding.md` -/

/-- Command words printed in the spec (R93's examples, `95_test_vectors.md` section 2), one or more of each family,
decode to the commands they are printed for, and two illegal ones are rejected by name. -/
def Obligations.PrintedWordsDecode : Prop :=
  decode 0x0000#16 = .ok .nop ∧ decode 0x0A8D#16 = .ok (.gfadd 20 13) ∧ decode 0x10EB#16 = .ok (.gfmul 7 11) ∧
  decode 0x1807#16 = .ok (.gfexp 7) ∧ decode 0x200B#16 = .ok (.gflog 11) ∧ decode 0x2811#16 = .ok (.symch 17) ∧
  decode 0x304B#16 = .ok (.chsym 0x4B) ∧ decode 0x3808#16 = .ok (.permrd 8) ∧ decode 0x4000#16 = .ok .idtodec ∧
  decode 0x6000#16 = .ok .rspar ∧ decode 0x804B#16 = .ok (.putc 0x4B) ∧ decode 0x9800#16 = .ok .decode ∧
  decode 0xB000#16 = .error .reservedOp ∧ decode 0x8100#16 = .error .mustBeZero

/-- Decoding the word of any command gives that command back, with every operand at every value of its field. -/
def Obligations.DecodeOfEncodeIsTheCommand : Prop := ∀ i : Instr, decode (encode i) = .ok i

/-- A word that decodes to a command is that command's one word: no bit of a legal word is dropped (R94: "There are
no ... encodings that execute as another command"). -/
def Obligations.LegalWordIsItsCommandsEncoding : Prop :=
  ∀ (w : CmdWord) (i : Instr), decode w = .ok i → encode i = w

/-- R93: a word selects the command whose printed word it equals under the printed mask. -/
def Obligations.WordSelectsCommandByMask : Prop :=
  (∀ (w : CmdWord) (i : Instr), decode w = .ok i → w &&& (opcodeRow i).mask = (opcodeRow i).word) ∧
  ∀ (w : CmdWord) (i : Instr), w &&& (opcodeRow i).mask = (opcodeRow i).word →
    ∃ j, decode w = .ok j ∧ opcodeRow j = opcodeRow i

/-- R94: writing an illegal word to `CMD` stores it, raises IllegalCommand and does nothing else; every other word is
exactly one command; 2702 of the 65536 words are legal. -/
def Obligations.IllegalWordFaultsAndOthersAreOneCommand : Prop :=
  (∀ (w : CmdWord) (s : State), illegalWord w → s.fault = 0#2 →
    hostWrite 0x00#8 (w.setWidth 64) s = .next { s with cmd := w, status := setField s.status 5 2 1#2 }) ∧
  (∀ w : CmdWord, ¬ illegalWord w → ∃! i, encode i = w) ∧
  (List.range 65536).countP (fun n => decide (¬ illegalWord (BitVec.ofNat 16 n))) = 2702

/-! ### `40_gf32.md` -/

/-- R113, R114: the antilog table is made by repeated multiplication by 2 with reduction by 37, its entries 0..30 are
the 31 nonzero elements, and the log table is its inverse. That the polynomial and the element are these is the
spec's G1 (general knowledge), entry 13. -/
def Obligations.LogTablesAreGeneratedByTwo : Prop :=
  antilogTable[0] = 1#5 ∧
  (∀ n : Fin 31, antilogTable[n.val + 1] = reducePoly (antilogTable[n.val].setWidth 9 <<< 1)) ∧
  (∀ a : Sym, a ≠ 0#5 → ∃ x, logOf a = some x ∧ x.toNat ≤ 30 ∧ antilog x = a) ∧
  (∀ x : Sym, x.toNat ≤ 30 → logOf (antilog x) = some x) ∧ logOf 0#5 = none

/-- R116: the field laws, and the product as a polynomial product modulo `x^5 + x^2 + 1` (G1, entry 13). -/
def Obligations.FieldLawsOfGmul : Prop :=
  (∀ a b, gmul a b = gmul b a) ∧ (∀ a b c, gmul (gmul a b) c = gmul a (gmul b c)) ∧
  (∀ a, gmul a 1#5 = a) ∧ (∀ a b, gmul a b = 0#5 ↔ a = 0#5 ∨ b = 0#5) ∧
  (∀ a b c, gmul a (b ^^^ c) = gmul a b ^^^ gmul a c) ∧
  (∀ a, a ≠ 0#5 → ∃! b, gmul a b = 1#5) ∧
  ∀ a b, gmul a b = reducePoly (carrylessProduct a b)

/-- R117, `GFADD a, b`. -/
def Obligations.GfaddXorsIntoRes : Prop :=
  ∀ (a b : Sym) (s : State),
    decode (0x0800#16 ||| (a.setWidth 16 <<< 5) ||| b.setWidth 16) = .ok (.gfadd a b) ∧
    exec (.gfadd a b) s = .next { s with res := (a ^^^ b).setWidth 8 }

/-- R115 and R118, `GFMUL a, b`: the product by the log and antilog tables. -/
def Obligations.GfmulByLogTablesIntoRes : Prop :=
  ∀ (a b : Sym) (s : State),
    decode (0x1000#16 ||| (a.setWidth 16 <<< 5) ||| b.setWidth 16) = .ok (.gfmul a b) ∧
    exec (.gfmul a b) s = .next { s with res := (gmul a b).setWidth 8 } ∧
    (a = 0#5 ∨ b = 0#5 → gmul a b = 0#5) ∧
    ∀ x y, logOf a = some x → logOf b = some y → antilogTable[(x.toNat + y.toNat) % 31]? = some (gmul a b)

/-- R119, `GFEXP a`. -/
def Obligations.GfexpReadsAntilogIntoRes : Prop :=
  ∀ (a : Sym) (s : State),
    decode (0x1800#16 ||| a.setWidth 16) = .ok (.gfexp a) ∧
    ∃ r, antilogTable[a.toNat]? = some r ∧ exec (.gfexp a) s = .next { s with res := r.setWidth 8 }

/-- R120, `GFLOG a`: the log table for a nonzero operand; IllegalOperand and nothing else for 0. -/
def Obligations.GflogReadsLogOrFaults : Prop :=
  ∀ (a : Sym) (s : State),
    decode (0x2000#16 ||| a.setWidth 16) = .ok (.gflog a) ∧
    (a ≠ 0#5 → ∃ r, logTable[a.toNat - 1]? = some r ∧ exec (.gflog a) s = .next { s with res := r.setWidth 8 }) ∧
    (a = 0#5 → s.fault = 0#2 → exec (.gflog a) s = .next { s with status := setField s.status 5 2 2#2 })

/-! ### `41_base_conversion.md` -/

/-- R131, `IDTODEC`: the canonical decimal digits of `ID`. -/
def Obligations.IdtodecWritesCanonicalDigits : Prop :=
  decode 0x4000#16 = .ok .idtodec ∧
  ∀ s : State, ∃ n d, exec .idtodec s = .next { s with decLen := n, dec := d } ∧
    canonicalDecimal s.id.toNat n d ∧ (s.id ≠ 0#64 → 10 ^ (n.toNat - 1) ≤ s.id.toNat) ∧ s.id.toNat < 10 ^ n.toNat ∧
    ∀ i : Fin 20, i.val < n.toNat → d[i].toNat = s.id.toNat / 10 ^ (n.toNat - 1 - i.val) % 10

/-- R132, `DECTOID`: the value modulo 2^64 and `OVF`, or IllegalOperand and nothing else. -/
def Obligations.DectoidValueOverflowOrFault : Prop :=
  decode 0x4800#16 = .ok .dectoid ∧
  (∀ s : State, decOperandLegal s → exec .dectoid s = .next { s with
    id := BitVec.ofNat 64 (decSum s.decLen.toNat s.dec),
    status := setField s.status 3 1 (if 2 ^ 64 ≤ decSum s.decLen.toNat s.dec then 1#1 else 0#1) }) ∧
  ∀ s : State, ¬ decOperandLegal s → s.fault = 0#2 →
    exec .dectoid s = .next { s with status := setField s.status 5 2 2#2 }

/-- R133: what one division pass leaves, for both base pairs, with the bound 319 on `ACC`. The suppression of leading
zeros of the quotient is the spec's G5 (general knowledge). -/
def Obligations.DivisionPassQuotientAndRemainder : Prop :=
  ∀ bin bout : Nat, (bin = 10 ∧ bout = 32) ∨ (bin = 32 ∧ bout = 10) →
  ∀ wk : List Nat, (∀ d ∈ wk, d < bin) →
    valMsf bin (divPass bin bout wk).1 = valMsf bin wk / bout ∧
    (divPass bin bout wk).2 = valMsf bin wk % bout ∧
    (∀ d ∈ (divPass bin bout wk).1, d < bin) ∧
    (divPass bin bout wk).1.head? ≠ some 0 ∧
    ((divPass bin bout wk).1 = [] ↔ valMsf bin wk / bout = 0) ∧
    ∀ (done : List Nat) (d : Nat), done ++ [d] <+: wk → (divPass bin bout done).2 * bin + d ≤ 319

/-- R134, `B10TO32`: the base-32 digits of the decimal value and their number, or IllegalOperand and nothing else. -/
def Obligations.B10to32DigitsOrFault : Prop :=
  decode 0x5000#16 = .ok .b10to32 ∧
  (∀ s : State, decOperandLegal s → decSum s.decLen.toNat s.dec < 32 ^ 13 →
    ∃ code n, exec .b10to32 s = .next { s with cw := code, b32Len := n } ∧
      cwSum code = decSum s.decLen.toNat s.dec ∧ (∀ k : Fin 17, 13 ≤ k.val → code[k] = s.cw[k]) ∧
      1 ≤ n.toNat ∧ n.toNat ≤ 13 ∧ cwSum code < 32 ^ n.toNat ∧ (n ≠ 1#4 → 32 ^ (n.toNat - 1) ≤ cwSum code)) ∧
  ∀ s : State, ¬ (decOperandLegal s ∧ decSum s.decLen.toNat s.dec < 32 ^ 13) → s.fault = 0#2 →
    exec .b10to32 s = .next { s with status := setField s.status 5 2 2#2 }

/-- R135, `B32TO10`: the canonical decimal digits of the value of the data symbols. -/
def Obligations.B32to10WritesCanonicalDigits : Prop :=
  decode 0x5800#16 = .ok .b32to10 ∧
  ∀ s : State, ∃ n d, exec .b32to10 s = .next { s with decLen := n, dec := d } ∧ canonicalDecimal (cwSum s.cw) n d

/-- R136: `IDTODEC; B10TO32; B32TO10; DECTOID` leaves `ID` unchanged with `OVF = 0`, and `DEC`, `DECLEN` as `IDTODEC`
wrote them, for every identifier and whatever the other registers hold. -/
def Obligations.ConversionsAreInverse : Prop :=
  ∀ s : State, ∃ t u,
    exec .idtodec s = .next t ∧ execAll [.idtodec, .b10to32, .b32to10, .dectoid] s = .next u ∧
    u.id = s.id ∧ u.ovf = 0#1 ∧ u.dec = t.dec ∧ u.decLen = t.decLen ∧ u.fault = s.fault

/-! ### `42_codeword.md` -/

/-- R151, R152, `RSPAR`: thirteen steps of the shift register from zero over `CW[12]` down to `CW[0]`, the parity
copied behind the data, nothing else written. Which constant feeds which stage is the spec's G4 (entry 13). -/
def Obligations.RsparRunsThirteenRegisterSteps : Prop :=
  decode 0x6000#16 = .ok .rspar ∧
  ∀ s : State, ∃ (reg : Nat → Vector Sym 4) (code : Vector Sym 17),
    exec .rspar s = .next { s with p := reg 13, cw := code } ∧
    (∀ k : Fin 17, k.val < 13 → code[k] = s.cw[k]) ∧ (∀ k : Fin 4, code[13 + k.val] = (reg 13)[k]) ∧
    reg 0 = #v[0#5, 0#5, 0#5, 0#5] ∧
    ∀ n : Fin 13,
      reg (n.val + 1) = #v[gmul 17 (s.cw[12 - n.val] ^^^ (reg n.val)[3]),
        (reg n.val)[0] ^^^ gmul 9 (s.cw[12 - n.val] ^^^ (reg n.val)[3]),
        (reg n.val)[1] ^^^ gmul 6 (s.cw[12 - n.val] ^^^ (reg n.val)[3]),
        (reg n.val)[2] ^^^ gmul 30 (s.cw[12 - n.val] ^^^ (reg n.val)[3])]

/-- R152: "The map from data to parity is linear". -/
def Obligations.ParityIsLinearInTheData : Prop :=
  ∀ code other : Vector Sym 17,
    parityOf (Vector.zipWith (· ^^^ ·) code other) = Vector.zipWith (· ^^^ ·) (parityOf code) (parityOf other)

/-- R153, R154, `RSCHK`: the four 17-term sums into `SYN` and the verdict into `VALID`, nothing else. Which term
indices are skipped (the nonzero values of `SYN`) is the spec's G3 (general knowledge), entry 13. -/
def Obligations.RschkWritesSyndromesAndVerdict : Prop :=
  decode 0x6800#16 = .ok .rschk ∧
  ∀ s : State, ∃ v b, exec .rschk s = .next { s with syn := v, status := setField s.status 2 1 b } ∧
    (∀ i : Fin 4, v[i] = syndromeSum s.cw 0 (i.val + 1)) ∧ (b = 1#1 ↔ ∀ i : Fin 4, v[i] = 0#5)

/-- R155: whatever `CW` holds, `RSPAR` and then `RSCHK` end with all four syndromes zero and `VALID = 1`. -/
def Obligations.ParityThenCheckIsValid : Prop :=
  ∀ s : State, ∃ t u, exec .rspar s = .next t ∧ exec .rschk t = .next u ∧ u.valid = 1#1 ∧ ∀ i : Fin 4, u.syn[i] = 0#5

/-- R156: a valid codeword changed in one to four of its 17 positions is found invalid. -/
def Obligations.UpToFourChangedSymbolsAreDetected : Prop :=
  ∀ s t s' : State, exec .rschk s = .next s' → s'.valid = 1#1 →
    1 ≤ symbolDistance s.cw t.cw → symbolDistance s.cw t.cw ≤ 4 →
    ∃ t', exec .rschk t = .next t' ∧ t'.valid = 0#1

/-- R157: the verdict does not change when a constant is added to every exponent of the syndrome sums. -/
def Obligations.VerdictIndependentOfExponentShift : Prop :=
  ∀ (s : State) (shift : Nat), ∃ t, exec .rschk s = .next t ∧
    (t.valid = 1#1 ↔ ∀ i : Fin 4, syndromeSum s.cw shift (i.val + 1) = 0#5)

/-! ### `43_alphabet.md` -/

/-- R43, R44: the 32 character codes are distinct, the separator is none of them, and the permutation table is its own
inverse. The permutation's values are the spec's G2 and the codes its G6 (general knowledge), entry 13. -/
def Obligations.AlphabetDistinctAndPermInvolutive : Prop :=
  (∀ a b : Sym, alpha a = alpha b → a = b) ∧ (∀ a : Sym, alpha a ≠ sepCode) ∧ (∀ a : Sym, indexOf (alpha a) = some a) ∧
  ∀ d : Fin 17, perm (perm d) = d

/-- R174, `SYMCH a`. -/
def Obligations.SymchReadsAlphabetIntoRes : Prop :=
  ∀ (a : Sym) (s : State),
    decode (0x2800#16 ||| a.setWidth 16) = .ok (.symch a) ∧
    ∃ r, alphaTable[a.toNat]? = some r ∧ exec (.symch a) s = .next { s with res := r }

/-- R175, `CHSYM c`: the symbol of a character of the alphabet, 0xFF for any other. -/
def Obligations.ChsymFindsSymbolOrNone : Prop :=
  ∀ (c : CharCode) (s : State),
    decode (0x3000#16 ||| c.setWidth 16) = .ok (.chsym c) ∧
    (∀ x : Sym, alphaTable[x.toNat]? = some c → exec (.chsym c) s = .next { s with res := x.setWidth 8 }) ∧
    ((∀ x : Sym, alphaTable[x.toNat]? ≠ some c) → exec (.chsym c) s = .next { s with res := 0xFF#8 })

/-- R176, `PERMRD a`: the permutation table for 0..16; IllegalOperand and nothing else above. -/
def Obligations.PermrdReadsPermOrFaults : Prop :=
  ∀ (a : Sym) (s : State),
    decode (0x3800#16 ||| a.setWidth 16) = .ok (.permrd a) ∧
    (a.toNat ≤ 16 → ∃ r : Fin 17, permTable[a.toNat]? = some r ∧
      exec (.permrd a) s = .next { s with res := BitVec.ofNat 8 r.val }) ∧
    (16 < a.toNat → s.fault = 0#2 → exec (.permrd a) s = .next { s with status := setField s.status 5 2 2#2 })

/-- R177, `FMT`: the symbol of display position `d` at `STR[d + min(d div 4, 3)]`, the separator at 4, 9 and 14. -/
def Obligations.FmtWritesTheDisplayString : Prop :=
  decode 0x7000#16 = .ok .fmt ∧
  ∀ s : State, ∃ v, exec .fmt s = .next { s with str := v } ∧
    (∀ d : Fin 17, v[d.val + min (d.val / 4) 3]? = some (alpha s.cw[perm d])) ∧
    v[4] = sepCode ∧ v[9] = sepCode ∧ v[14] = sepCode

/-- R178, `PBEGIN`: `CNT` and `TAG` 0, `CW` all 0, nothing else. -/
def Obligations.PbeginClearsTheScan : Prop :=
  decode 0x7800#16 = .ok .pbegin ∧
  ∀ s : State, exec .pbegin s = .next { s with
    cw := Vector.replicate 17 0#5, status := setField (setField s.status 8 5 0#5) 0 2 0#2 }

/-- R179, `PUTC c`: held off by a pending tag; an unrecognized character skipped; a recognized one placed and counted;
the eighteenth signals CodewordTooLong. (A count above 17 is reached by no run; entry 9 says what the model does.) -/
def Obligations.PutcPlacesSkipsOrSignals : Prop :=
  ∀ (c : CharCode) (s : State),
    decode (0x8000#16 ||| c.setWidth 16) = .ok (.putc c) ∧
    (s.tag ≠ 0#2 → exec (.putc c) s = .next s) ∧
    (s.tag = 0#2 → (∀ x : Sym, alphaTable[x.toNat]? ≠ some c) → exec (.putc c) s = .next s) ∧
    (∀ x : Sym, s.tag = 0#2 → alphaTable[x.toNat]? = some c → s.cnt = 17#5 →
      exec (.putc c) s = .next { s with status := setField s.status 0 2 1#2 }) ∧
    ∀ x : Sym, s.tag = 0#2 → alphaTable[x.toNat]? = some c → ∀ h : s.cnt.toNat < 17,
      exec (.putc c) s = .next { s with
        cw := s.cw.set (perm ⟨s.cnt.toNat, h⟩).val x (perm ⟨s.cnt.toNat, h⟩).isLt,
        status := setField s.status 8 5 (s.cnt + 1#5) }

/-- R180, `PEND`: held off by a pending tag; CodewordInvalid for a wrong count without the check; else the check of
`RSCHK`, and CodewordInvalid when it fails. -/
def Obligations.PendChecksCountThenParity : Prop :=
  decode 0x8800#16 = .ok .pend ∧
  ∀ s : State,
    (s.tag ≠ 0#2 → exec .pend s = .next s) ∧
    (s.tag = 0#2 → s.cnt ≠ 17#5 → exec .pend s = .next { s with status := setField s.status 0 2 2#2 }) ∧
    (s.tag = 0#2 → s.cnt = 17#5 → ∃ u, exec .rschk s = .next u ∧
      (u.valid = 1#1 → exec .pend s = .next u) ∧
      (u.valid = 0#1 → exec .pend s = .next { u with status := setField u.status 0 2 2#2 }))

/-- R181 (a): a scan depends only on the recognized characters: leaving out every other character changes nothing. -/
def Obligations.ScanIgnoresUnrecognizedCharacters : Prop :=
  ∀ (cs : List CharCode) (s : State),
    execAll (cs.map Instr.putc) s = execAll ((cs.filter recognized).map Instr.putc) s

/-- R178, R179 together: after `PBEGIN` and a string of at most 17 recognized characters, the `d`-th symbol stands at
`CW[PERM[d]]`, the positions beyond are 0, `CNT` is their number and `TAG` is 0; nothing else has changed. -/
def Obligations.ScanPlacesSymbolsByPermutation : Prop :=
  ∀ (cs : List CharCode) (s : State), (recognizedSymbols cs).length ≤ 17 →
    ∃ t, execAll (scan cs) s = .next t ∧ t = { s with cw := t.cw, status := t.status } ∧
      t.tag = 0#2 ∧ t.cnt.toNat = (recognizedSymbols cs).length ∧
      t.valid = s.valid ∧ t.ovf = s.ovf ∧ t.fault = s.fault ∧
      ∀ d : Fin 17, t.cw[perm d] = (recognizedSymbols cs).getD d.val 0#5

/-- R195 (e), R212: a string with 18 or more recognized characters ends in CodewordTooLong with `CNT = 17` and the
first 17 symbols kept, and `PEND` and `DECODE` then change nothing. -/
def Obligations.EighteenCharactersAreTooLong : Prop :=
  ∀ (cs : List CharCode) (s : State), 18 ≤ (recognizedSymbols cs).length →
    ∃ t, execAll (scan cs) s = .next t ∧ t = { s with cw := t.cw, status := t.status } ∧
      t.tag = 1#2 ∧ t.cnt = 17#5 ∧ (∀ d : Fin 17, t.cw[perm d] = (recognizedSymbols cs).getD d.val 0#5) ∧
      exec .pend t = .next t ∧ exec .decode t = .next t

/-- R180, R191, R212: a string with fewer than 17 recognized characters decodes to CodewordInvalid, with `CNT` telling
the case, and no result register, syndrome or verdict is written. -/
def Obligations.FewerThanSeventeenAreInvalid : Prop :=
  ∀ (cs : List CharCode) (s : State), (recognizedSymbols cs).length < 17 →
    ∃ t, execAll (scan cs ++ [.decode]) s = .next t ∧ t = { s with cw := t.cw, status := t.status } ∧
      t.tag = 2#2 ∧ t.cnt.toNat = (recognizedSymbols cs).length ∧ t.valid = s.valid ∧ t.ovf = s.ovf

/-! ### `44_codec_ops.md` -/

/-- R190, `ENCODE`: the effect of its four commands in order; `STATUS` (so no tag, flag or fault), `ID`, `DFLT`,
`SYN`, `RES` are unchanged. -/
def Obligations.EncodeIsItsFourCommands : Prop :=
  decode 0x9000#16 = .ok .encode ∧
  ∀ s : State, ∃ t, exec .encode s = .next t ∧ execAll [.idtodec, .b10to32, .rspar, .fmt] s = .next t ∧
    t = { s with decLen := t.decLen, dec := t.dec, cw := t.cw, b32Len := t.b32Len, p := t.p, str := t.str }

/-- R190's determinism: the string and the codeword that `ENCODE` writes depend on `ID` alone. -/
def Obligations.EncodedStringDependsOnIdAlone : Prop :=
  ∀ s s' : State, s.id = s'.id → ∃ t t', exec .encode s = .next t ∧ exec .encode s' = .next t' ∧
    t.str = t'.str ∧ t.cw = t'.cw ∧ t.p = t'.p ∧ t.b32Len = t'.b32Len ∧ t.dec = t'.dec ∧ t.decLen = t'.decLen

/-- R191, `DECODE`: a pending tag keeps everything; a wrong count or bad parity ends in CodewordInvalid with the
result registers unchanged; success writes the canonical decimal digits, `ID` and `OVF`. -/
def Obligations.DecodeResultOrTag : Prop :=
  decode 0x9800#16 = .ok .decode ∧
  ∀ s : State,
    (s.tag ≠ 0#2 → exec .decode s = .next s) ∧
    (s.tag = 0#2 → s.cnt ≠ 17#5 → exec .decode s = .next { s with status := setField s.status 0 2 2#2 }) ∧
    (s.tag = 0#2 → s.cnt = 17#5 → ∃ u, exec .rschk s = .next u ∧
      (u.valid = 0#1 → exec .decode s = .next { u with status := setField u.status 0 2 2#2 }) ∧
      (u.valid = 1#1 → ∃ n d, canonicalDecimal (cwSum s.cw) n d ∧
        exec .decode s = .next { u with
          decLen := n, dec := d, id := BitVec.ofNat 64 (cwSum s.cw),
          status := setField u.status 3 1 (if 2 ^ 64 ≤ cwSum s.cw then 1#1 else 0#1) }))

/-- R192, `DECODED`: what `DECODE` does; on failure the sentinel goes to `ID` and the tag is cleared. -/
def Obligations.DecodedSubstitutesTheSentinel : Prop :=
  decode 0xA000#16 = .ok .decoded ∧
  ∀ s : State, ∃ t, exec .decode s = .next t ∧
    (t.tag = 0#2 → exec .decoded s = .next t) ∧
    (t.tag ≠ 0#2 → exec .decoded s = .next { t with id := s.dflt, status := setField t.status 0 2 0#2 })

/-- R193, `CLRST`. -/
def Obligations.ClrstClearsTagAndOverflow : Prop :=
  decode 0xA800#16 = .ok .clrst ∧
  ∀ s : State, exec .clrst s = .next { s with status := setField (setField s.status 0 2 0#2) 3 1 0#1 }

/-- R194, `NOP`: nothing; a `NOP` written to `CMD` changes `CMD` and, with every command, the hidden scratch (the
model's counter `scratchEpoch`, entry 4). -/
def Obligations.NopChangesOnlyCmd : Prop :=
  decode 0x0000#16 = .ok .nop ∧ (∀ s : State, exec .nop s = .next s) ∧
  ∀ s : State, s.fault = 0#2 →
    hostWrite 0x00#8 0#64 s = .next { s with cmd := 0x0000#16, scratchEpoch := s.scratchEpoch + 1 }

/-- R195 (a): `decode(encode(v)) == v` for every 64-bit `v`: the string that `ENCODE` writes, streamed into a block in
any state and decoded, ends with `TAG = 0`, `VALID = 1`, `ID = v`, `OVF = 0`. -/
def Obligations.DecodeOfEncodeIsTheIdentifier : Prop :=
  ∀ s u : State, ∃ t w, exec .encode s = .next t ∧ execAll (scan t.str.toList ++ [.decode]) u = .next w ∧
    w.tag = 0#2 ∧ w.valid = 1#1 ∧ w.ovf = 0#1 ∧ w.cnt = 17#5 ∧ w.id = s.id

/-- R195 (c), R156: an encoding with any one character changed to another character of the alphabet decodes to
CodewordInvalid and leaves `ID`, `DEC`, `DECLEN`, `OVF` as they were. -/
def Obligations.OneChangedCharacterIsInvalid : Prop :=
  ∀ (s u t : State) (n : Fin 20) (c : CharCode), exec .encode s = .next t →
    recognized t.str[n] = true → recognized c = true → c ≠ t.str[n] →
    ∃ w, execAll (scan (t.str.toList.set n.val c) ++ [.decode]) u = .next w ∧
      w.tag = 2#2 ∧ w.cnt = 17#5 ∧ w.valid = 0#1 ∧ w.id = u.id ∧ w.dec = u.dec ∧ w.decLen = u.decLen ∧ w.ovf = u.ovf

/-- R244: a finished scan followed by `ENCODE` and `PEND` is checked on the encoded codeword and succeeds. -/
def Obligations.EncodeDuringScanPassesTheCheck : Prop :=
  ∀ s : State, s.tag = 0#2 → s.cnt = 17#5 →
    ∃ t, execAll [.encode, .pend] s = .next t ∧ t.tag = 0#2 ∧ t.valid = 1#1 ∧ t.cnt = 17#5 ∧ t.id = s.id

/-! ### `10_state.md`: who may write and read what -/

/-- R33 ("written by"), R35, R36, R39: `VALID`, `OVF` and `CNT` change only by the commands the table names. -/
def Obligations.FlagsChangeOnlyByTheirCommands : Prop :=
  ∀ (i : Instr) (s t : State), exec i s = .next t →
    (t.valid ≠ s.valid → i = .rschk ∨ i = .pend ∨ i = .decode ∨ i = .decoded) ∧
    (t.ovf ≠ s.ovf → i = .dectoid ∨ i = .decode ∨ i = .decoded ∨ i = .clrst) ∧
    (t.cnt ≠ s.cnt → i = .pbegin ∨ ∃ c, i = .putc c)

/-- R34, R212, R218: `TAG` becomes 1 only by `PUTC`, 2 only by `PEND` or `DECODE`, and either only from 0; it becomes 0
only by `PBEGIN`, `CLRST` or `DECODED`. -/
def Obligations.TagChangesOnlyAsListed : Prop :=
  ∀ (i : Instr) (s t : State), exec i s = .next t → t.tag ≠ s.tag →
    (t.tag = 0#2 ∧ (i = .pbegin ∨ i = .clrst ∨ i = .decoded)) ∨
    (s.tag = 0#2 ∧ t.tag = 1#2 ∧ ∃ c, i = .putc c) ∨
    (s.tag = 0#2 ∧ t.tag = 2#2 ∧ (i = .pend ∨ i = .decode))

/-- R47 with R26, R28 to R31: what a command does depends on no content of `B32LEN`, `P`, `SYN`, `STR`, `RES` or `CMD`:
from two states that agree on the other registers it ends in states that agree on them, and each of the result
registers is written with the same value in both or kept in both; `CMD` no command writes. -/
def Obligations.ResultRegistersAreNeverRead : Prop :=
  ∀ (i : Instr) (s s' : State), agreeOnRead s s' →
    ∃ t t', exec i s = .next t ∧ exec i s' = .next t' ∧ agreeOnRead t t' ∧
      sameOrKept State.res s s' t t' ∧ sameOrKept State.str s s' t t' ∧ sameOrKept State.p s s' t t' ∧
      sameOrKept State.syn s s' t t' ∧ sameOrKept State.b32Len s s' t t' ∧ t.cmd = s.cmd ∧ t'.cmd = s'.cmd

/-! ### `20_memory.md`: the host port -/

/-- R61: the map of the register space is one to one, every index not in R67's list of reserved ones names a register,
and those name none. -/
def Obligations.RegisterMapIsOneToOne : Prop :=
  (∀ r : Reg, regAt (regIndex r) = some r) ∧ (∀ (idx : RegIndex) (r : Reg), regAt idx = some r → regIndex r = idx) ∧
  ∀ idx : RegIndex, regAt idx = none ↔ reservedIndex idx

/-- R64 over R61's map: a read of each defined index returns that register zero-extended, in any state, faulted or
not, and changes nothing. The returned value is recorded in the model's list `returned` (entry 6);
the read is taken from the queue of issued events (entry 5). -/
def Obligations.ReadReturnsTheRegister : Prop :=
  ∀ (s : State) (idx : RegIndex) (rest : List HostEvent), s.pending = .read idx :: rest → ¬ reservedIndex idx →
    ∃ v, step s = .next { s with pending := rest, returned := v :: s.returned } ∧
      (idx = 0x00#8 → v = s.cmd.setWidth 64) ∧ (idx = 0x01#8 → v = s.status.setWidth 64) ∧
      (idx = 0x02#8 → v = s.res.setWidth 64) ∧ (idx = 0x03#8 → v = s.id) ∧ (idx = 0x04#8 → v = s.dflt) ∧
      (idx = 0x05#8 → v = s.decLen.setWidth 64) ∧ (idx = 0x06#8 → v = s.b32Len.setWidth 64) ∧
      (∀ k : Fin 4, idx.toNat = 0x08 + k.val → v = s.p[k].setWidth 64) ∧
      (∀ i : Fin 4, idx.toNat = 0x0C + i.val → v = s.syn[i].setWidth 64) ∧
      (∀ i : Fin 20, idx.toNat = 0x10 + i.val → v = s.dec[i].setWidth 64) ∧
      (∀ k : Fin 17, idx.toNat = 0x30 + k.val → v = s.cw[k].setWidth 64) ∧
      ∀ n : Fin 20, idx.toNat = 0x50 + n.val → v = s.str[n].setWidth 64

/-- R64, R67, R214: a read of a reserved index raises IllegalAccess when no fault is recorded, records no further
fault when one is, changes no other register, and returns some value; which value is free (entry 3), and the model
counts the draw. That the read is the oldest issued event and is taken from the queue, and that the returned value is
put into the list `returned`, is the model's (entries 5, 6). -/
def Obligations.ReservedReadFaultsOnce : Prop :=
  ∀ (s : State) (idx : RegIndex) (rest : List HostEvent), s.pending = .read idx :: rest → reservedIndex idx →
    ∃ v, (s.fault = 0#2 → step s = .next { s with
        pending := rest, returned := v :: s.returned, draws := s.draws + 1, status := setField s.status 5 2 3#2 }) ∧
      (s.fault ≠ 0#2 → step s = .next { s with
        pending := rest, returned := v :: s.returned, draws := s.draws + 1 })

/-- R65 over R61's map: outside the faulted state a write of each read-write register stores the low bits of its width
and nothing else; a write of a read-only or reserved index raises IllegalAccess and nothing else (R67). -/
def Obligations.WriteStoresOrFaults : Prop :=
  ∀ (s : State) (idx : RegIndex) (v : HostData), s.fault = 0#2 →
    (idx = 0x03#8 → hostWrite idx v s = .next { s with id := v }) ∧
    (idx = 0x04#8 → hostWrite idx v s = .next { s with dflt := v }) ∧
    (idx = 0x05#8 → hostWrite idx v s = .next { s with decLen := v.setWidth 5 }) ∧
    (∀ i : Fin 20, idx.toNat = 0x10 + i.val →
      hostWrite idx v s = .next { s with dec := s.dec.set i.val (v.setWidth 4) i.isLt }) ∧
    (∀ k : Fin 17, idx.toNat = 0x30 + k.val →
      hostWrite idx v s = .next { s with cw := s.cw.set k.val (v.setWidth 5) k.isLt }) ∧
    (readOnlyIndex idx ∨ reservedIndex idx →
      hostWrite idx v s = .next { s with status := setField s.status 5 2 3#2 })

/-- R73: a read returns what the most recent write stored, and a write of one register changes what no other register
reads as. (`CMD` apart: its write runs a command.) -/
def Obligations.ReadBackAfterWrite : Prop :=
  ∀ (s : State) (r : Reg) (v : HostData), s.fault = 0#2 → regWritable r = true → r ≠ .cmd →
    ∃ t, hostWrite (regIndex r) v s = .next t ∧ (readReg t r).toNat = v.toNat % 2 ^ regWidth r ∧
      ∀ r' : Reg, r' ≠ r → readReg t r' = readReg s r'

/-- R66, R99: a step at a write of `CMD` with a legal word, no fault recorded, runs the decoded command on the state in
which `CMD` holds the word, and the command completes; after a command the hidden scratch is unspecified anew (the model's counter
`scratchEpoch`, entry 4). The write is the oldest event the host has issued (entry 5). -/
def Obligations.StepRunsTheDecodedCommand : Prop :=
  ∀ (s : State) (v : HostData) (rest : List HostEvent) (i : Instr),
    s.pending = .write 0x00#8 v :: rest → s.fault = 0#2 → decode (v.setWidth 16) = .ok i →
    ∃ t, exec i { s with pending := rest, cmd := v.setWidth 16 } = .next t ∧
      step s = .next { t with scratchEpoch := t.scratchEpoch + 1 }

/-- R78, R232: a step of one instance leaves every other instance as it was, and steps of two different instances give
the same platform in either order. That a platform is a list of instances stepped one at a time is the model's (entry
14). At a reset or a read of a reserved index the second clause rests on the model's choice that a free value is a
function of the drawing instance's own counter, so that it is the same in either order (DESIGN CHOICE, entries 2, 3,
17); what such a step draws the spec leaves open (R48, R64). -/
def Obligations.InstancesDoNotInteract : Prop :=
  ∀ (j k : Nat) (p q : Platform), j ≠ k → platformStep j p = .next q →
    q[k]? = p[k]? ∧
    ∀ r, platformStep k p = .next r → ∃ z, platformStep k q = .next z ∧ platformStep j r = .next z

/-! ### `60_exceptions.md`: faults -/

/-- R213, R216: a command that raises a fault writes `FAULT = 2` and nothing else, and only `GFLOG 0`, `PERMRD a` with
`a > 16`, `DECTOID` and `B10TO32` can. -/
def Obligations.OperandFaultIsPreciseAndOnlyFromFour : Prop :=
  ∀ (i : Instr) (s t : State), exec i s = .next t → s.fault = 0#2 → t.fault ≠ 0#2 →
    t = { s with status := setField s.status 5 2 2#2 } ∧
    (i = .gflog 0#5 ∨ (∃ a : Sym, 16 < a.toNat ∧ i = .permrd a) ∨ i = .dectoid ∨ i = .b10to32)

/-- R214: in the faulted state every host write is ignored, `CMD` included: the write only leaves the
queue of issued events (entry 5). -/
def Obligations.FaultedStateIgnoresWrites : Prop :=
  ∀ (s : State) (idx : RegIndex) (v : HostData) (rest : List HostEvent),
    s.pending = .write idx v :: rest → s.fault ≠ 0#2 → step s = .next { s with pending := rest }

/-- R38, R240: "Reset is the only event that clears `STATUS.FAULT`", and nothing but reset replaces it: a step that
is not a reset keeps a recorded fault, and `CMD`, and every register a host could read. That
a step is one host event is the model's (entry 5). -/
def Obligations.OnlyResetLeavesTheFaultedState : Prop :=
  ∀ s t : State, step s = .next t → s.fault ≠ 0#2 → s.pending.head? ≠ some .reset →
    t.fault = s.fault ∧ ∀ r : Reg, readReg t r = readReg s r

/-! ### `70_reset_and_hazards.md`: reset, and what every step keeps -/

/-- R241, R240: a pulse of the reset input leaves `CMD` and `STATUS` 0, the faulted state included; the data registers
are then unspecified, so nothing is said of them. That the events issued behind it stay issued is the model's
(entries 5, 8). -/
def Obligations.ResetClearsCmdAndStatus : Prop :=
  (State.reset.cmd = 0x0000#16 ∧ State.reset.status = 0x0000#16) ∧
  ∀ (s : State) (rest : List HostEvent), s.pending = .reset :: rest →
    ∃ t, step s = .next t ∧ t.cmd = 0x0000#16 ∧ t.status = 0x0000#16 ∧ t.pending = rest

/-- R33, R48: the reset state has a legal `STATUS`. -/
def Obligations.ResetStatusIsLegal : Prop := statusLegal State.reset

/-- R34, R37, R39, R40: every step keeps `STATUS` legal: no tag 3, `BUSY` and the reserved bits 0, at most 17
characters counted. That a step is one host event, and that no write reaches the reserved bits, is the model's (entries
5, 11). -/
def Obligations.StepKeepsStatusLegal : Prop := ∀ s t : State, statusLegal s → step s = .next t → statusLegal t
end

