-- ==== Sys2Proof/Laws/State.lean ====
section
/-! SUPPORT. The small lemmas of State: what each update leaves in each field, and what writing one field of `STATUS`
leaves in every bit of the word. -/

namespace Sys2Proof.Machine

/-! ### A field of `STATUS` (R33) -/

/-- Bit `k` after writing the field at `lo`: the new value's bit inside the field, the old bit outside. -/
theorem getLsbD_setField (w : BitVec 16) (lo n : Nat) (v : BitVec n) (k : Nat) (hn : lo + n ≤ 16) :
    (setField w lo n v).getLsbD k = if lo ≤ k ∧ k < lo + n then v.getLsbD (k - lo) else w.getLsbD k := by
  unfold setField
  by_cases hk : k < 16
  · by_cases h1 : lo ≤ k <;> by_cases h2 : k - lo < n
    · have h3 : k < lo + n := by omega
      simp [hk, h1, h2, h3, show ¬ k < lo by omega]
    · have h3 : ¬ k < lo + n := by omega
      have h4 : v.getLsbD (k - lo) = false := BitVec.getLsbD_of_ge _ _ (by omega)
      simp [hk, h1, h2, h3, h4, show ¬ k < lo by omega]
    · simp [hk, h1, show k < lo by omega]
    · simp [hk, h1, show k < lo by omega]
  · have h3 : ¬ (lo ≤ k ∧ k < lo + n) := by omega
    rw [if_neg h3, BitVec.getLsbD_of_ge _ _ (by omega), BitVec.getLsbD_of_ge _ _ (by omega)]

/-- A written field reads as what was written. -/
theorem extract_setField_same (w : BitVec 16) (lo n : Nat) (v : BitVec n) (hn : lo + n ≤ 16) :
    (setField w lo n v).extractLsb' lo n = v := by
  apply BitVec.eq_of_getLsbD_eq
  intro i hi
  rw [BitVec.getLsbD_extractLsb', getLsbD_setField _ _ _ _ _ hn]
  simp [hi]

/-- A field that does not overlap the written one reads as before. -/
theorem extract_setField_other (w : BitVec 16) (lo n : Nat) (v : BitVec n) (lo' n' : Nat) (hn : lo + n ≤ 16)
    (h : lo + n ≤ lo' ∨ lo' + n' ≤ lo) :
    (setField w lo n v).extractLsb' lo' n' = w.extractLsb' lo' n' := by
  apply BitVec.eq_of_getLsbD_eq
  intro i hi
  rw [BitVec.getLsbD_extractLsb', getLsbD_setField _ _ _ _ _ hn, if_neg (by omega), BitVec.getLsbD_extractLsb']

/-! ### One lemma per update and field -/

section setCmd

variable (s : State) (w : CmdWord)

@[simp] theorem State.setCmd_cmd : (s.setCmd w).cmd = w := rfl
@[simp] theorem State.setCmd_status : (s.setCmd w).status = s.status := rfl
@[simp] theorem State.setCmd_id : (s.setCmd w).id = s.id := rfl
@[simp] theorem State.setCmd_dflt : (s.setCmd w).dflt = s.dflt := rfl
@[simp] theorem State.setCmd_decLen : (s.setCmd w).decLen = s.decLen := rfl
@[simp] theorem State.setCmd_dec : (s.setCmd w).dec = s.dec := rfl
@[simp] theorem State.setCmd_b32Len : (s.setCmd w).b32Len = s.b32Len := rfl
@[simp] theorem State.setCmd_cw : (s.setCmd w).cw = s.cw := rfl
@[simp] theorem State.setCmd_p : (s.setCmd w).p = s.p := rfl
@[simp] theorem State.setCmd_syn : (s.setCmd w).syn = s.syn := rfl
@[simp] theorem State.setCmd_str : (s.setCmd w).str = s.str := rfl
@[simp] theorem State.setCmd_res : (s.setCmd w).res = s.res := rfl
@[simp] theorem State.setCmd_pending : (s.setCmd w).pending = s.pending := rfl
@[simp] theorem State.setCmd_returned : (s.setCmd w).returned = s.returned := rfl
@[simp] theorem State.setCmd_draws : (s.setCmd w).draws = s.draws := rfl
@[simp] theorem State.setCmd_scratchEpoch : (s.setCmd w).scratchEpoch = s.scratchEpoch := rfl
@[simp] theorem State.setCmd_tag : (s.setCmd w).tag = s.tag := rfl
@[simp] theorem State.setCmd_valid : (s.setCmd w).valid = s.valid := rfl
@[simp] theorem State.setCmd_ovf : (s.setCmd w).ovf = s.ovf := rfl
@[simp] theorem State.setCmd_busy : (s.setCmd w).busy = s.busy := rfl
@[simp] theorem State.setCmd_fault : (s.setCmd w).fault = s.fault := rfl
@[simp] theorem State.setCmd_cnt : (s.setCmd w).cnt = s.cnt := rfl

end setCmd

section setStatus

variable (s : State) (w : BitVec 16)

@[simp] theorem State.setStatus_cmd : (s.setStatus w).cmd = s.cmd := rfl
@[simp] theorem State.setStatus_status : (s.setStatus w).status = w := rfl
@[simp] theorem State.setStatus_id : (s.setStatus w).id = s.id := rfl
@[simp] theorem State.setStatus_dflt : (s.setStatus w).dflt = s.dflt := rfl
@[simp] theorem State.setStatus_decLen : (s.setStatus w).decLen = s.decLen := rfl
@[simp] theorem State.setStatus_dec : (s.setStatus w).dec = s.dec := rfl
@[simp] theorem State.setStatus_b32Len : (s.setStatus w).b32Len = s.b32Len := rfl
@[simp] theorem State.setStatus_cw : (s.setStatus w).cw = s.cw := rfl
@[simp] theorem State.setStatus_p : (s.setStatus w).p = s.p := rfl
@[simp] theorem State.setStatus_syn : (s.setStatus w).syn = s.syn := rfl
@[simp] theorem State.setStatus_str : (s.setStatus w).str = s.str := rfl
@[simp] theorem State.setStatus_res : (s.setStatus w).res = s.res := rfl
@[simp] theorem State.setStatus_pending : (s.setStatus w).pending = s.pending := rfl
@[simp] theorem State.setStatus_returned : (s.setStatus w).returned = s.returned := rfl
@[simp] theorem State.setStatus_draws : (s.setStatus w).draws = s.draws := rfl
@[simp] theorem State.setStatus_scratchEpoch : (s.setStatus w).scratchEpoch = s.scratchEpoch := rfl

end setStatus

section setId

variable (s : State) (v : BitVec 64)

@[simp] theorem State.setId_cmd : (s.setId v).cmd = s.cmd := rfl
@[simp] theorem State.setId_status : (s.setId v).status = s.status := rfl
@[simp] theorem State.setId_id : (s.setId v).id = v := rfl
@[simp] theorem State.setId_dflt : (s.setId v).dflt = s.dflt := rfl
@[simp] theorem State.setId_decLen : (s.setId v).decLen = s.decLen := rfl
@[simp] theorem State.setId_dec : (s.setId v).dec = s.dec := rfl
@[simp] theorem State.setId_b32Len : (s.setId v).b32Len = s.b32Len := rfl
@[simp] theorem State.setId_cw : (s.setId v).cw = s.cw := rfl
@[simp] theorem State.setId_p : (s.setId v).p = s.p := rfl
@[simp] theorem State.setId_syn : (s.setId v).syn = s.syn := rfl
@[simp] theorem State.setId_str : (s.setId v).str = s.str := rfl
@[simp] theorem State.setId_res : (s.setId v).res = s.res := rfl
@[simp] theorem State.setId_pending : (s.setId v).pending = s.pending := rfl
@[simp] theorem State.setId_returned : (s.setId v).returned = s.returned := rfl
@[simp] theorem State.setId_draws : (s.setId v).draws = s.draws := rfl
@[simp] theorem State.setId_scratchEpoch : (s.setId v).scratchEpoch = s.scratchEpoch := rfl
@[simp] theorem State.setId_tag : (s.setId v).tag = s.tag := rfl
@[simp] theorem State.setId_valid : (s.setId v).valid = s.valid := rfl
@[simp] theorem State.setId_ovf : (s.setId v).ovf = s.ovf := rfl
@[simp] theorem State.setId_busy : (s.setId v).busy = s.busy := rfl
@[simp] theorem State.setId_fault : (s.setId v).fault = s.fault := rfl
@[simp] theorem State.setId_cnt : (s.setId v).cnt = s.cnt := rfl

end setId

section setDflt

variable (s : State) (v : BitVec 64)

@[simp] theorem State.setDflt_cmd : (s.setDflt v).cmd = s.cmd := rfl
@[simp] theorem State.setDflt_status : (s.setDflt v).status = s.status := rfl
@[simp] theorem State.setDflt_id : (s.setDflt v).id = s.id := rfl
@[simp] theorem State.setDflt_dflt : (s.setDflt v).dflt = v := rfl
@[simp] theorem State.setDflt_decLen : (s.setDflt v).decLen = s.decLen := rfl
@[simp] theorem State.setDflt_dec : (s.setDflt v).dec = s.dec := rfl
@[simp] theorem State.setDflt_b32Len : (s.setDflt v).b32Len = s.b32Len := rfl
@[simp] theorem State.setDflt_cw : (s.setDflt v).cw = s.cw := rfl
@[simp] theorem State.setDflt_p : (s.setDflt v).p = s.p := rfl
@[simp] theorem State.setDflt_syn : (s.setDflt v).syn = s.syn := rfl
@[simp] theorem State.setDflt_str : (s.setDflt v).str = s.str := rfl
@[simp] theorem State.setDflt_res : (s.setDflt v).res = s.res := rfl
@[simp] theorem State.setDflt_pending : (s.setDflt v).pending = s.pending := rfl
@[simp] theorem State.setDflt_returned : (s.setDflt v).returned = s.returned := rfl
@[simp] theorem State.setDflt_draws : (s.setDflt v).draws = s.draws := rfl
@[simp] theorem State.setDflt_scratchEpoch : (s.setDflt v).scratchEpoch = s.scratchEpoch := rfl
@[simp] theorem State.setDflt_tag : (s.setDflt v).tag = s.tag := rfl
@[simp] theorem State.setDflt_valid : (s.setDflt v).valid = s.valid := rfl
@[simp] theorem State.setDflt_ovf : (s.setDflt v).ovf = s.ovf := rfl
@[simp] theorem State.setDflt_busy : (s.setDflt v).busy = s.busy := rfl
@[simp] theorem State.setDflt_fault : (s.setDflt v).fault = s.fault := rfl
@[simp] theorem State.setDflt_cnt : (s.setDflt v).cnt = s.cnt := rfl

end setDflt

section setDecLen

variable (s : State) (n : BitVec 5)

@[simp] theorem State.setDecLen_cmd : (s.setDecLen n).cmd = s.cmd := rfl
@[simp] theorem State.setDecLen_status : (s.setDecLen n).status = s.status := rfl
@[simp] theorem State.setDecLen_id : (s.setDecLen n).id = s.id := rfl
@[simp] theorem State.setDecLen_dflt : (s.setDecLen n).dflt = s.dflt := rfl
@[simp] theorem State.setDecLen_decLen : (s.setDecLen n).decLen = n := rfl
@[simp] theorem State.setDecLen_dec : (s.setDecLen n).dec = s.dec := rfl
@[simp] theorem State.setDecLen_b32Len : (s.setDecLen n).b32Len = s.b32Len := rfl
@[simp] theorem State.setDecLen_cw : (s.setDecLen n).cw = s.cw := rfl
@[simp] theorem State.setDecLen_p : (s.setDecLen n).p = s.p := rfl
@[simp] theorem State.setDecLen_syn : (s.setDecLen n).syn = s.syn := rfl
@[simp] theorem State.setDecLen_str : (s.setDecLen n).str = s.str := rfl
@[simp] theorem State.setDecLen_res : (s.setDecLen n).res = s.res := rfl
@[simp] theorem State.setDecLen_pending : (s.setDecLen n).pending = s.pending := rfl
@[simp] theorem State.setDecLen_returned : (s.setDecLen n).returned = s.returned := rfl
@[simp] theorem State.setDecLen_draws : (s.setDecLen n).draws = s.draws := rfl
@[simp] theorem State.setDecLen_scratchEpoch : (s.setDecLen n).scratchEpoch = s.scratchEpoch := rfl
@[simp] theorem State.setDecLen_tag : (s.setDecLen n).tag = s.tag := rfl
@[simp] theorem State.setDecLen_valid : (s.setDecLen n).valid = s.valid := rfl
@[simp] theorem State.setDecLen_ovf : (s.setDecLen n).ovf = s.ovf := rfl
@[simp] theorem State.setDecLen_busy : (s.setDecLen n).busy = s.busy := rfl
@[simp] theorem State.setDecLen_fault : (s.setDecLen n).fault = s.fault := rfl
@[simp] theorem State.setDecLen_cnt : (s.setDecLen n).cnt = s.cnt := rfl

end setDecLen

section setDec

variable (s : State) (d : Vector Digit 20)

@[simp] theorem State.setDec_cmd : (s.setDec d).cmd = s.cmd := rfl
@[simp] theorem State.setDec_status : (s.setDec d).status = s.status := rfl
@[simp] theorem State.setDec_id : (s.setDec d).id = s.id := rfl
@[simp] theorem State.setDec_dflt : (s.setDec d).dflt = s.dflt := rfl
@[simp] theorem State.setDec_decLen : (s.setDec d).decLen = s.decLen := rfl
@[simp] theorem State.setDec_dec : (s.setDec d).dec = d := rfl
@[simp] theorem State.setDec_b32Len : (s.setDec d).b32Len = s.b32Len := rfl
@[simp] theorem State.setDec_cw : (s.setDec d).cw = s.cw := rfl
@[simp] theorem State.setDec_p : (s.setDec d).p = s.p := rfl
@[simp] theorem State.setDec_syn : (s.setDec d).syn = s.syn := rfl
@[simp] theorem State.setDec_str : (s.setDec d).str = s.str := rfl
@[simp] theorem State.setDec_res : (s.setDec d).res = s.res := rfl
@[simp] theorem State.setDec_pending : (s.setDec d).pending = s.pending := rfl
@[simp] theorem State.setDec_returned : (s.setDec d).returned = s.returned := rfl
@[simp] theorem State.setDec_draws : (s.setDec d).draws = s.draws := rfl
@[simp] theorem State.setDec_scratchEpoch : (s.setDec d).scratchEpoch = s.scratchEpoch := rfl
@[simp] theorem State.setDec_tag : (s.setDec d).tag = s.tag := rfl
@[simp] theorem State.setDec_valid : (s.setDec d).valid = s.valid := rfl
@[simp] theorem State.setDec_ovf : (s.setDec d).ovf = s.ovf := rfl
@[simp] theorem State.setDec_busy : (s.setDec d).busy = s.busy := rfl
@[simp] theorem State.setDec_fault : (s.setDec d).fault = s.fault := rfl
@[simp] theorem State.setDec_cnt : (s.setDec d).cnt = s.cnt := rfl

end setDec

section setB32Len

variable (s : State) (n : BitVec 4)

@[simp] theorem State.setB32Len_cmd : (s.setB32Len n).cmd = s.cmd := rfl
@[simp] theorem State.setB32Len_status : (s.setB32Len n).status = s.status := rfl
@[simp] theorem State.setB32Len_id : (s.setB32Len n).id = s.id := rfl
@[simp] theorem State.setB32Len_dflt : (s.setB32Len n).dflt = s.dflt := rfl
@[simp] theorem State.setB32Len_decLen : (s.setB32Len n).decLen = s.decLen := rfl
@[simp] theorem State.setB32Len_dec : (s.setB32Len n).dec = s.dec := rfl
@[simp] theorem State.setB32Len_b32Len : (s.setB32Len n).b32Len = n := rfl
@[simp] theorem State.setB32Len_cw : (s.setB32Len n).cw = s.cw := rfl
@[simp] theorem State.setB32Len_p : (s.setB32Len n).p = s.p := rfl
@[simp] theorem State.setB32Len_syn : (s.setB32Len n).syn = s.syn := rfl
@[simp] theorem State.setB32Len_str : (s.setB32Len n).str = s.str := rfl
@[simp] theorem State.setB32Len_res : (s.setB32Len n).res = s.res := rfl
@[simp] theorem State.setB32Len_pending : (s.setB32Len n).pending = s.pending := rfl
@[simp] theorem State.setB32Len_returned : (s.setB32Len n).returned = s.returned := rfl
@[simp] theorem State.setB32Len_draws : (s.setB32Len n).draws = s.draws := rfl
@[simp] theorem State.setB32Len_scratchEpoch : (s.setB32Len n).scratchEpoch = s.scratchEpoch := rfl
@[simp] theorem State.setB32Len_tag : (s.setB32Len n).tag = s.tag := rfl
@[simp] theorem State.setB32Len_valid : (s.setB32Len n).valid = s.valid := rfl
@[simp] theorem State.setB32Len_ovf : (s.setB32Len n).ovf = s.ovf := rfl
@[simp] theorem State.setB32Len_busy : (s.setB32Len n).busy = s.busy := rfl
@[simp] theorem State.setB32Len_fault : (s.setB32Len n).fault = s.fault := rfl
@[simp] theorem State.setB32Len_cnt : (s.setB32Len n).cnt = s.cnt := rfl

end setB32Len

section setCw

variable (s : State) (code : Vector Sym 17)

@[simp] theorem State.setCw_cmd : (s.setCw code).cmd = s.cmd := rfl
@[simp] theorem State.setCw_status : (s.setCw code).status = s.status := rfl
@[simp] theorem State.setCw_id : (s.setCw code).id = s.id := rfl
@[simp] theorem State.setCw_dflt : (s.setCw code).dflt = s.dflt := rfl
@[simp] theorem State.setCw_decLen : (s.setCw code).decLen = s.decLen := rfl
@[simp] theorem State.setCw_dec : (s.setCw code).dec = s.dec := rfl
@[simp] theorem State.setCw_b32Len : (s.setCw code).b32Len = s.b32Len := rfl
@[simp] theorem State.setCw_cw : (s.setCw code).cw = code := rfl
@[simp] theorem State.setCw_p : (s.setCw code).p = s.p := rfl
@[simp] theorem State.setCw_syn : (s.setCw code).syn = s.syn := rfl
@[simp] theorem State.setCw_str : (s.setCw code).str = s.str := rfl
@[simp] theorem State.setCw_res : (s.setCw code).res = s.res := rfl
@[simp] theorem State.setCw_pending : (s.setCw code).pending = s.pending := rfl
@[simp] theorem State.setCw_returned : (s.setCw code).returned = s.returned := rfl
@[simp] theorem State.setCw_draws : (s.setCw code).draws = s.draws := rfl
@[simp] theorem State.setCw_scratchEpoch : (s.setCw code).scratchEpoch = s.scratchEpoch := rfl
@[simp] theorem State.setCw_tag : (s.setCw code).tag = s.tag := rfl
@[simp] theorem State.setCw_valid : (s.setCw code).valid = s.valid := rfl
@[simp] theorem State.setCw_ovf : (s.setCw code).ovf = s.ovf := rfl
@[simp] theorem State.setCw_busy : (s.setCw code).busy = s.busy := rfl
@[simp] theorem State.setCw_fault : (s.setCw code).fault = s.fault := rfl
@[simp] theorem State.setCw_cnt : (s.setCw code).cnt = s.cnt := rfl

end setCw

section setP

variable (s : State) (v : Vector Sym 4)

@[simp] theorem State.setP_cmd : (s.setP v).cmd = s.cmd := rfl
@[simp] theorem State.setP_status : (s.setP v).status = s.status := rfl
@[simp] theorem State.setP_id : (s.setP v).id = s.id := rfl
@[simp] theorem State.setP_dflt : (s.setP v).dflt = s.dflt := rfl
@[simp] theorem State.setP_decLen : (s.setP v).decLen = s.decLen := rfl
@[simp] theorem State.setP_dec : (s.setP v).dec = s.dec := rfl
@[simp] theorem State.setP_b32Len : (s.setP v).b32Len = s.b32Len := rfl
@[simp] theorem State.setP_cw : (s.setP v).cw = s.cw := rfl
@[simp] theorem State.setP_p : (s.setP v).p = v := rfl
@[simp] theorem State.setP_syn : (s.setP v).syn = s.syn := rfl
@[simp] theorem State.setP_str : (s.setP v).str = s.str := rfl
@[simp] theorem State.setP_res : (s.setP v).res = s.res := rfl
@[simp] theorem State.setP_pending : (s.setP v).pending = s.pending := rfl
@[simp] theorem State.setP_returned : (s.setP v).returned = s.returned := rfl
@[simp] theorem State.setP_draws : (s.setP v).draws = s.draws := rfl
@[simp] theorem State.setP_scratchEpoch : (s.setP v).scratchEpoch = s.scratchEpoch := rfl
@[simp] theorem State.setP_tag : (s.setP v).tag = s.tag := rfl
@[simp] theorem State.setP_valid : (s.setP v).valid = s.valid := rfl
@[simp] theorem State.setP_ovf : (s.setP v).ovf = s.ovf := rfl
@[simp] theorem State.setP_busy : (s.setP v).busy = s.busy := rfl
@[simp] theorem State.setP_fault : (s.setP v).fault = s.fault := rfl
@[simp] theorem State.setP_cnt : (s.setP v).cnt = s.cnt := rfl

end setP

section setSyn

variable (s : State) (v : Vector Sym 4)

@[simp] theorem State.setSyn_cmd : (s.setSyn v).cmd = s.cmd := rfl
@[simp] theorem State.setSyn_status : (s.setSyn v).status = s.status := rfl
@[simp] theorem State.setSyn_id : (s.setSyn v).id = s.id := rfl
@[simp] theorem State.setSyn_dflt : (s.setSyn v).dflt = s.dflt := rfl
@[simp] theorem State.setSyn_decLen : (s.setSyn v).decLen = s.decLen := rfl
@[simp] theorem State.setSyn_dec : (s.setSyn v).dec = s.dec := rfl
@[simp] theorem State.setSyn_b32Len : (s.setSyn v).b32Len = s.b32Len := rfl
@[simp] theorem State.setSyn_cw : (s.setSyn v).cw = s.cw := rfl
@[simp] theorem State.setSyn_p : (s.setSyn v).p = s.p := rfl
@[simp] theorem State.setSyn_syn : (s.setSyn v).syn = v := rfl
@[simp] theorem State.setSyn_str : (s.setSyn v).str = s.str := rfl
@[simp] theorem State.setSyn_res : (s.setSyn v).res = s.res := rfl
@[simp] theorem State.setSyn_pending : (s.setSyn v).pending = s.pending := rfl
@[simp] theorem State.setSyn_returned : (s.setSyn v).returned = s.returned := rfl
@[simp] theorem State.setSyn_draws : (s.setSyn v).draws = s.draws := rfl
@[simp] theorem State.setSyn_scratchEpoch : (s.setSyn v).scratchEpoch = s.scratchEpoch := rfl
@[simp] theorem State.setSyn_tag : (s.setSyn v).tag = s.tag := rfl
@[simp] theorem State.setSyn_valid : (s.setSyn v).valid = s.valid := rfl
@[simp] theorem State.setSyn_ovf : (s.setSyn v).ovf = s.ovf := rfl
@[simp] theorem State.setSyn_busy : (s.setSyn v).busy = s.busy := rfl
@[simp] theorem State.setSyn_fault : (s.setSyn v).fault = s.fault := rfl
@[simp] theorem State.setSyn_cnt : (s.setSyn v).cnt = s.cnt := rfl

end setSyn

section setStr

variable (s : State) (v : Vector CharCode 20)

@[simp] theorem State.setStr_cmd : (s.setStr v).cmd = s.cmd := rfl
@[simp] theorem State.setStr_status : (s.setStr v).status = s.status := rfl
@[simp] theorem State.setStr_id : (s.setStr v).id = s.id := rfl
@[simp] theorem State.setStr_dflt : (s.setStr v).dflt = s.dflt := rfl
@[simp] theorem State.setStr_decLen : (s.setStr v).decLen = s.decLen := rfl
@[simp] theorem State.setStr_dec : (s.setStr v).dec = s.dec := rfl
@[simp] theorem State.setStr_b32Len : (s.setStr v).b32Len = s.b32Len := rfl
@[simp] theorem State.setStr_cw : (s.setStr v).cw = s.cw := rfl
@[simp] theorem State.setStr_p : (s.setStr v).p = s.p := rfl
@[simp] theorem State.setStr_syn : (s.setStr v).syn = s.syn := rfl
@[simp] theorem State.setStr_str : (s.setStr v).str = v := rfl
@[simp] theorem State.setStr_res : (s.setStr v).res = s.res := rfl
@[simp] theorem State.setStr_pending : (s.setStr v).pending = s.pending := rfl
@[simp] theorem State.setStr_returned : (s.setStr v).returned = s.returned := rfl
@[simp] theorem State.setStr_draws : (s.setStr v).draws = s.draws := rfl
@[simp] theorem State.setStr_scratchEpoch : (s.setStr v).scratchEpoch = s.scratchEpoch := rfl
@[simp] theorem State.setStr_tag : (s.setStr v).tag = s.tag := rfl
@[simp] theorem State.setStr_valid : (s.setStr v).valid = s.valid := rfl
@[simp] theorem State.setStr_ovf : (s.setStr v).ovf = s.ovf := rfl
@[simp] theorem State.setStr_busy : (s.setStr v).busy = s.busy := rfl
@[simp] theorem State.setStr_fault : (s.setStr v).fault = s.fault := rfl
@[simp] theorem State.setStr_cnt : (s.setStr v).cnt = s.cnt := rfl

end setStr

section setRes

variable (s : State) (v : BitVec 8)

@[simp] theorem State.setRes_cmd : (s.setRes v).cmd = s.cmd := rfl
@[simp] theorem State.setRes_status : (s.setRes v).status = s.status := rfl
@[simp] theorem State.setRes_id : (s.setRes v).id = s.id := rfl
@[simp] theorem State.setRes_dflt : (s.setRes v).dflt = s.dflt := rfl
@[simp] theorem State.setRes_decLen : (s.setRes v).decLen = s.decLen := rfl
@[simp] theorem State.setRes_dec : (s.setRes v).dec = s.dec := rfl
@[simp] theorem State.setRes_b32Len : (s.setRes v).b32Len = s.b32Len := rfl
@[simp] theorem State.setRes_cw : (s.setRes v).cw = s.cw := rfl
@[simp] theorem State.setRes_p : (s.setRes v).p = s.p := rfl
@[simp] theorem State.setRes_syn : (s.setRes v).syn = s.syn := rfl
@[simp] theorem State.setRes_str : (s.setRes v).str = s.str := rfl
@[simp] theorem State.setRes_res : (s.setRes v).res = v := rfl
@[simp] theorem State.setRes_pending : (s.setRes v).pending = s.pending := rfl
@[simp] theorem State.setRes_returned : (s.setRes v).returned = s.returned := rfl
@[simp] theorem State.setRes_draws : (s.setRes v).draws = s.draws := rfl
@[simp] theorem State.setRes_scratchEpoch : (s.setRes v).scratchEpoch = s.scratchEpoch := rfl
@[simp] theorem State.setRes_tag : (s.setRes v).tag = s.tag := rfl
@[simp] theorem State.setRes_valid : (s.setRes v).valid = s.valid := rfl
@[simp] theorem State.setRes_ovf : (s.setRes v).ovf = s.ovf := rfl
@[simp] theorem State.setRes_busy : (s.setRes v).busy = s.busy := rfl
@[simp] theorem State.setRes_fault : (s.setRes v).fault = s.fault := rfl
@[simp] theorem State.setRes_cnt : (s.setRes v).cnt = s.cnt := rfl

end setRes

section giveBack

variable (s : State) (v : HostData)

@[simp] theorem State.giveBack_cmd : (s.giveBack v).cmd = s.cmd := rfl
@[simp] theorem State.giveBack_status : (s.giveBack v).status = s.status := rfl
@[simp] theorem State.giveBack_id : (s.giveBack v).id = s.id := rfl
@[simp] theorem State.giveBack_dflt : (s.giveBack v).dflt = s.dflt := rfl
@[simp] theorem State.giveBack_decLen : (s.giveBack v).decLen = s.decLen := rfl
@[simp] theorem State.giveBack_dec : (s.giveBack v).dec = s.dec := rfl
@[simp] theorem State.giveBack_b32Len : (s.giveBack v).b32Len = s.b32Len := rfl
@[simp] theorem State.giveBack_cw : (s.giveBack v).cw = s.cw := rfl
@[simp] theorem State.giveBack_p : (s.giveBack v).p = s.p := rfl
@[simp] theorem State.giveBack_syn : (s.giveBack v).syn = s.syn := rfl
@[simp] theorem State.giveBack_str : (s.giveBack v).str = s.str := rfl
@[simp] theorem State.giveBack_res : (s.giveBack v).res = s.res := rfl
@[simp] theorem State.giveBack_pending : (s.giveBack v).pending = s.pending := rfl
@[simp] theorem State.giveBack_returned : (s.giveBack v).returned = v :: s.returned := rfl
@[simp] theorem State.giveBack_draws : (s.giveBack v).draws = s.draws := rfl
@[simp] theorem State.giveBack_scratchEpoch : (s.giveBack v).scratchEpoch = s.scratchEpoch := rfl
@[simp] theorem State.giveBack_tag : (s.giveBack v).tag = s.tag := rfl
@[simp] theorem State.giveBack_valid : (s.giveBack v).valid = s.valid := rfl
@[simp] theorem State.giveBack_ovf : (s.giveBack v).ovf = s.ovf := rfl
@[simp] theorem State.giveBack_busy : (s.giveBack v).busy = s.busy := rfl
@[simp] theorem State.giveBack_fault : (s.giveBack v).fault = s.fault := rfl
@[simp] theorem State.giveBack_cnt : (s.giveBack v).cnt = s.cnt := rfl

end giveBack

section countDraw

variable (s : State)

@[simp] theorem State.countDraw_cmd : (s.countDraw).cmd = s.cmd := rfl
@[simp] theorem State.countDraw_status : (s.countDraw).status = s.status := rfl
@[simp] theorem State.countDraw_id : (s.countDraw).id = s.id := rfl
@[simp] theorem State.countDraw_dflt : (s.countDraw).dflt = s.dflt := rfl
@[simp] theorem State.countDraw_decLen : (s.countDraw).decLen = s.decLen := rfl
@[simp] theorem State.countDraw_dec : (s.countDraw).dec = s.dec := rfl
@[simp] theorem State.countDraw_b32Len : (s.countDraw).b32Len = s.b32Len := rfl
@[simp] theorem State.countDraw_cw : (s.countDraw).cw = s.cw := rfl
@[simp] theorem State.countDraw_p : (s.countDraw).p = s.p := rfl
@[simp] theorem State.countDraw_syn : (s.countDraw).syn = s.syn := rfl
@[simp] theorem State.countDraw_str : (s.countDraw).str = s.str := rfl
@[simp] theorem State.countDraw_res : (s.countDraw).res = s.res := rfl
@[simp] theorem State.countDraw_pending : (s.countDraw).pending = s.pending := rfl
@[simp] theorem State.countDraw_returned : (s.countDraw).returned = s.returned := rfl
@[simp] theorem State.countDraw_draws : (s.countDraw).draws = s.draws + 1 := rfl
@[simp] theorem State.countDraw_scratchEpoch : (s.countDraw).scratchEpoch = s.scratchEpoch := rfl
@[simp] theorem State.countDraw_tag : (s.countDraw).tag = s.tag := rfl
@[simp] theorem State.countDraw_valid : (s.countDraw).valid = s.valid := rfl
@[simp] theorem State.countDraw_ovf : (s.countDraw).ovf = s.ovf := rfl
@[simp] theorem State.countDraw_busy : (s.countDraw).busy = s.busy := rfl
@[simp] theorem State.countDraw_fault : (s.countDraw).fault = s.fault := rfl
@[simp] theorem State.countDraw_cnt : (s.countDraw).cnt = s.cnt := rfl

end countDraw

section freshScratch

variable (s : State)

@[simp] theorem State.freshScratch_cmd : (s.freshScratch).cmd = s.cmd := rfl
@[simp] theorem State.freshScratch_status : (s.freshScratch).status = s.status := rfl
@[simp] theorem State.freshScratch_id : (s.freshScratch).id = s.id := rfl
@[simp] theorem State.freshScratch_dflt : (s.freshScratch).dflt = s.dflt := rfl
@[simp] theorem State.freshScratch_decLen : (s.freshScratch).decLen = s.decLen := rfl
@[simp] theorem State.freshScratch_dec : (s.freshScratch).dec = s.dec := rfl
@[simp] theorem State.freshScratch_b32Len : (s.freshScratch).b32Len = s.b32Len := rfl
@[simp] theorem State.freshScratch_cw : (s.freshScratch).cw = s.cw := rfl
@[simp] theorem State.freshScratch_p : (s.freshScratch).p = s.p := rfl
@[simp] theorem State.freshScratch_syn : (s.freshScratch).syn = s.syn := rfl
@[simp] theorem State.freshScratch_str : (s.freshScratch).str = s.str := rfl
@[simp] theorem State.freshScratch_res : (s.freshScratch).res = s.res := rfl
@[simp] theorem State.freshScratch_pending : (s.freshScratch).pending = s.pending := rfl
@[simp] theorem State.freshScratch_returned : (s.freshScratch).returned = s.returned := rfl
@[simp] theorem State.freshScratch_draws : (s.freshScratch).draws = s.draws := rfl
@[simp] theorem State.freshScratch_scratchEpoch : (s.freshScratch).scratchEpoch = s.scratchEpoch + 1 := rfl
@[simp] theorem State.freshScratch_tag : (s.freshScratch).tag = s.tag := rfl
@[simp] theorem State.freshScratch_valid : (s.freshScratch).valid = s.valid := rfl
@[simp] theorem State.freshScratch_ovf : (s.freshScratch).ovf = s.ovf := rfl
@[simp] theorem State.freshScratch_busy : (s.freshScratch).busy = s.busy := rfl
@[simp] theorem State.freshScratch_fault : (s.freshScratch).fault = s.fault := rfl
@[simp] theorem State.freshScratch_cnt : (s.freshScratch).cnt = s.cnt := rfl

end freshScratch

/-! ### The fields of `STATUS` through their updates -/

section setTag

variable (s : State) (t : BitVec 2)

@[simp] theorem State.setTag_cmd : (s.setTag t).cmd = s.cmd := rfl
@[simp] theorem State.setTag_status : (s.setTag t).status = setField s.status 0 2 t := rfl
@[simp] theorem State.setTag_id : (s.setTag t).id = s.id := rfl
@[simp] theorem State.setTag_dflt : (s.setTag t).dflt = s.dflt := rfl
@[simp] theorem State.setTag_decLen : (s.setTag t).decLen = s.decLen := rfl
@[simp] theorem State.setTag_dec : (s.setTag t).dec = s.dec := rfl
@[simp] theorem State.setTag_b32Len : (s.setTag t).b32Len = s.b32Len := rfl
@[simp] theorem State.setTag_cw : (s.setTag t).cw = s.cw := rfl
@[simp] theorem State.setTag_p : (s.setTag t).p = s.p := rfl
@[simp] theorem State.setTag_syn : (s.setTag t).syn = s.syn := rfl
@[simp] theorem State.setTag_str : (s.setTag t).str = s.str := rfl
@[simp] theorem State.setTag_res : (s.setTag t).res = s.res := rfl
@[simp] theorem State.setTag_pending : (s.setTag t).pending = s.pending := rfl
@[simp] theorem State.setTag_returned : (s.setTag t).returned = s.returned := rfl
@[simp] theorem State.setTag_draws : (s.setTag t).draws = s.draws := rfl
@[simp] theorem State.setTag_scratchEpoch : (s.setTag t).scratchEpoch = s.scratchEpoch := rfl
@[simp] theorem State.setTag_tag : (s.setTag t).tag = t := extract_setField_same _ _ _ _ (by decide)
@[simp] theorem State.setTag_valid : (s.setTag t).valid = s.valid := extract_setField_other _ _ _ _ _ _ (by decide) (by decide)
@[simp] theorem State.setTag_ovf : (s.setTag t).ovf = s.ovf := extract_setField_other _ _ _ _ _ _ (by decide) (by decide)
@[simp] theorem State.setTag_busy : (s.setTag t).busy = s.busy := extract_setField_other _ _ _ _ _ _ (by decide) (by decide)
@[simp] theorem State.setTag_fault : (s.setTag t).fault = s.fault := extract_setField_other _ _ _ _ _ _ (by decide) (by decide)
@[simp] theorem State.setTag_cnt : (s.setTag t).cnt = s.cnt := extract_setField_other _ _ _ _ _ _ (by decide) (by decide)
@[simp] theorem State.setTag_reserved7 :
    (s.setTag t).status.extractLsb' 7 1 = s.status.extractLsb' 7 1 :=
  extract_setField_other _ _ _ _ _ _ (by decide) (by decide)
@[simp] theorem State.setTag_reserved13 :
    (s.setTag t).status.extractLsb' 13 3 = s.status.extractLsb' 13 3 :=
  extract_setField_other _ _ _ _ _ _ (by decide) (by decide)

end setTag

section setValid

variable (s : State) (b : BitVec 1)

@[simp] theorem State.setValid_cmd : (s.setValid b).cmd = s.cmd := rfl
@[simp] theorem State.setValid_status : (s.setValid b).status = setField s.status 2 1 b := rfl
@[simp] theorem State.setValid_id : (s.setValid b).id = s.id := rfl
@[simp] theorem State.setValid_dflt : (s.setValid b).dflt = s.dflt := rfl
@[simp] theorem State.setValid_decLen : (s.setValid b).decLen = s.decLen := rfl
@[simp] theorem State.setValid_dec : (s.setValid b).dec = s.dec := rfl
@[simp] theorem State.setValid_b32Len : (s.setValid b).b32Len = s.b32Len := rfl
@[simp] theorem State.setValid_cw : (s.setValid b).cw = s.cw := rfl
@[simp] theorem State.setValid_p : (s.setValid b).p = s.p := rfl
@[simp] theorem State.setValid_syn : (s.setValid b).syn = s.syn := rfl
@[simp] theorem State.setValid_str : (s.setValid b).str = s.str := rfl
@[simp] theorem State.setValid_res : (s.setValid b).res = s.res := rfl
@[simp] theorem State.setValid_pending : (s.setValid b).pending = s.pending := rfl
@[simp] theorem State.setValid_returned : (s.setValid b).returned = s.returned := rfl
@[simp] theorem State.setValid_draws : (s.setValid b).draws = s.draws := rfl
@[simp] theorem State.setValid_scratchEpoch : (s.setValid b).scratchEpoch = s.scratchEpoch := rfl
@[simp] theorem State.setValid_tag : (s.setValid b).tag = s.tag := extract_setField_other _ _ _ _ _ _ (by decide) (by decide)
@[simp] theorem State.setValid_valid : (s.setValid b).valid = b := extract_setField_same _ _ _ _ (by decide)
@[simp] theorem State.setValid_ovf : (s.setValid b).ovf = s.ovf := extract_setField_other _ _ _ _ _ _ (by decide) (by decide)
@[simp] theorem State.setValid_busy : (s.setValid b).busy = s.busy := extract_setField_other _ _ _ _ _ _ (by decide) (by decide)
@[simp] theorem State.setValid_fault : (s.setValid b).fault = s.fault := extract_setField_other _ _ _ _ _ _ (by decide) (by decide)
@[simp] theorem State.setValid_cnt : (s.setValid b).cnt = s.cnt := extract_setField_other _ _ _ _ _ _ (by decide) (by decide)
@[simp] theorem State.setValid_reserved7 :
    (s.setValid b).status.extractLsb' 7 1 = s.status.extractLsb' 7 1 :=
  extract_setField_other _ _ _ _ _ _ (by decide) (by decide)
@[simp] theorem State.setValid_reserved13 :
    (s.setValid b).status.extractLsb' 13 3 = s.status.extractLsb' 13 3 :=
  extract_setField_other _ _ _ _ _ _ (by decide) (by decide)

end setValid

section setOvf

variable (s : State) (b : BitVec 1)

@[simp] theorem State.setOvf_cmd : (s.setOvf b).cmd = s.cmd := rfl
@[simp] theorem State.setOvf_status : (s.setOvf b).status = setField s.status 3 1 b := rfl
@[simp] theorem State.setOvf_id : (s.setOvf b).id = s.id := rfl
@[simp] theorem State.setOvf_dflt : (s.setOvf b).dflt = s.dflt := rfl
@[simp] theorem State.setOvf_decLen : (s.setOvf b).decLen = s.decLen := rfl
@[simp] theorem State.setOvf_dec : (s.setOvf b).dec = s.dec := rfl
@[simp] theorem State.setOvf_b32Len : (s.setOvf b).b32Len = s.b32Len := rfl
@[simp] theorem State.setOvf_cw : (s.setOvf b).cw = s.cw := rfl
@[simp] theorem State.setOvf_p : (s.setOvf b).p = s.p := rfl
@[simp] theorem State.setOvf_syn : (s.setOvf b).syn = s.syn := rfl
@[simp] theorem State.setOvf_str : (s.setOvf b).str = s.str := rfl
@[simp] theorem State.setOvf_res : (s.setOvf b).res = s.res := rfl
@[simp] theorem State.setOvf_pending : (s.setOvf b).pending = s.pending := rfl
@[simp] theorem State.setOvf_returned : (s.setOvf b).returned = s.returned := rfl
@[simp] theorem State.setOvf_draws : (s.setOvf b).draws = s.draws := rfl
@[simp] theorem State.setOvf_scratchEpoch : (s.setOvf b).scratchEpoch = s.scratchEpoch := rfl
@[simp] theorem State.setOvf_tag : (s.setOvf b).tag = s.tag := extract_setField_other _ _ _ _ _ _ (by decide) (by decide)
@[simp] theorem State.setOvf_valid : (s.setOvf b).valid = s.valid := extract_setField_other _ _ _ _ _ _ (by decide) (by decide)
@[simp] theorem State.setOvf_ovf : (s.setOvf b).ovf = b := extract_setField_same _ _ _ _ (by decide)
@[simp] theorem State.setOvf_busy : (s.setOvf b).busy = s.busy := extract_setField_other _ _ _ _ _ _ (by decide) (by decide)
@[simp] theorem State.setOvf_fault : (s.setOvf b).fault = s.fault := extract_setField_other _ _ _ _ _ _ (by decide) (by decide)
@[simp] theorem State.setOvf_cnt : (s.setOvf b).cnt = s.cnt := extract_setField_other _ _ _ _ _ _ (by decide) (by decide)
@[simp] theorem State.setOvf_reserved7 :
    (s.setOvf b).status.extractLsb' 7 1 = s.status.extractLsb' 7 1 :=
  extract_setField_other _ _ _ _ _ _ (by decide) (by decide)
@[simp] theorem State.setOvf_reserved13 :
    (s.setOvf b).status.extractLsb' 13 3 = s.status.extractLsb' 13 3 :=
  extract_setField_other _ _ _ _ _ _ (by decide) (by decide)

end setOvf

section setFault

variable (s : State) (k : BitVec 2)

@[simp] theorem State.setFault_cmd : (s.setFault k).cmd = s.cmd := rfl
@[simp] theorem State.setFault_status : (s.setFault k).status = setField s.status 5 2 k := rfl
@[simp] theorem State.setFault_id : (s.setFault k).id = s.id := rfl
@[simp] theorem State.setFault_dflt : (s.setFault k).dflt = s.dflt := rfl
@[simp] theorem State.setFault_decLen : (s.setFault k).decLen = s.decLen := rfl
@[simp] theorem State.setFault_dec : (s.setFault k).dec = s.dec := rfl
@[simp] theorem State.setFault_b32Len : (s.setFault k).b32Len = s.b32Len := rfl
@[simp] theorem State.setFault_cw : (s.setFault k).cw = s.cw := rfl
@[simp] theorem State.setFault_p : (s.setFault k).p = s.p := rfl
@[simp] theorem State.setFault_syn : (s.setFault k).syn = s.syn := rfl
@[simp] theorem State.setFault_str : (s.setFault k).str = s.str := rfl
@[simp] theorem State.setFault_res : (s.setFault k).res = s.res := rfl
@[simp] theorem State.setFault_pending : (s.setFault k).pending = s.pending := rfl
@[simp] theorem State.setFault_returned : (s.setFault k).returned = s.returned := rfl
@[simp] theorem State.setFault_draws : (s.setFault k).draws = s.draws := rfl
@[simp] theorem State.setFault_scratchEpoch : (s.setFault k).scratchEpoch = s.scratchEpoch := rfl
@[simp] theorem State.setFault_tag : (s.setFault k).tag = s.tag := extract_setField_other _ _ _ _ _ _ (by decide) (by decide)
@[simp] theorem State.setFault_valid : (s.setFault k).valid = s.valid := extract_setField_other _ _ _ _ _ _ (by decide) (by decide)
@[simp] theorem State.setFault_ovf : (s.setFault k).ovf = s.ovf := extract_setField_other _ _ _ _ _ _ (by decide) (by decide)
@[simp] theorem State.setFault_busy : (s.setFault k).busy = s.busy := extract_setField_other _ _ _ _ _ _ (by decide) (by decide)
@[simp] theorem State.setFault_fault : (s.setFault k).fault = k := extract_setField_same _ _ _ _ (by decide)
@[simp] theorem State.setFault_cnt : (s.setFault k).cnt = s.cnt := extract_setField_other _ _ _ _ _ _ (by decide) (by decide)
@[simp] theorem State.setFault_reserved7 :
    (s.setFault k).status.extractLsb' 7 1 = s.status.extractLsb' 7 1 :=
  extract_setField_other _ _ _ _ _ _ (by decide) (by decide)
@[simp] theorem State.setFault_reserved13 :
    (s.setFault k).status.extractLsb' 13 3 = s.status.extractLsb' 13 3 :=
  extract_setField_other _ _ _ _ _ _ (by decide) (by decide)

end setFault

section setCnt

variable (s : State) (n : BitVec 5)

@[simp] theorem State.setCnt_cmd : (s.setCnt n).cmd = s.cmd := rfl
@[simp] theorem State.setCnt_status : (s.setCnt n).status = setField s.status 8 5 n := rfl
@[simp] theorem State.setCnt_id : (s.setCnt n).id = s.id := rfl
@[simp] theorem State.setCnt_dflt : (s.setCnt n).dflt = s.dflt := rfl
@[simp] theorem State.setCnt_decLen : (s.setCnt n).decLen = s.decLen := rfl
@[simp] theorem State.setCnt_dec : (s.setCnt n).dec = s.dec := rfl
@[simp] theorem State.setCnt_b32Len : (s.setCnt n).b32Len = s.b32Len := rfl
@[simp] theorem State.setCnt_cw : (s.setCnt n).cw = s.cw := rfl
@[simp] theorem State.setCnt_p : (s.setCnt n).p = s.p := rfl
@[simp] theorem State.setCnt_syn : (s.setCnt n).syn = s.syn := rfl
@[simp] theorem State.setCnt_str : (s.setCnt n).str = s.str := rfl
@[simp] theorem State.setCnt_res : (s.setCnt n).res = s.res := rfl
@[simp] theorem State.setCnt_pending : (s.setCnt n).pending = s.pending := rfl
@[simp] theorem State.setCnt_returned : (s.setCnt n).returned = s.returned := rfl
@[simp] theorem State.setCnt_draws : (s.setCnt n).draws = s.draws := rfl
@[simp] theorem State.setCnt_scratchEpoch : (s.setCnt n).scratchEpoch = s.scratchEpoch := rfl
@[simp] theorem State.setCnt_tag : (s.setCnt n).tag = s.tag := extract_setField_other _ _ _ _ _ _ (by decide) (by decide)
@[simp] theorem State.setCnt_valid : (s.setCnt n).valid = s.valid := extract_setField_other _ _ _ _ _ _ (by decide) (by decide)
@[simp] theorem State.setCnt_ovf : (s.setCnt n).ovf = s.ovf := extract_setField_other _ _ _ _ _ _ (by decide) (by decide)
@[simp] theorem State.setCnt_busy : (s.setCnt n).busy = s.busy := extract_setField_other _ _ _ _ _ _ (by decide) (by decide)
@[simp] theorem State.setCnt_fault : (s.setCnt n).fault = s.fault := extract_setField_other _ _ _ _ _ _ (by decide) (by decide)
@[simp] theorem State.setCnt_cnt : (s.setCnt n).cnt = n := extract_setField_same _ _ _ _ (by decide)
@[simp] theorem State.setCnt_reserved7 :
    (s.setCnt n).status.extractLsb' 7 1 = s.status.extractLsb' 7 1 :=
  extract_setField_other _ _ _ _ _ _ (by decide) (by decide)
@[simp] theorem State.setCnt_reserved13 :
    (s.setCnt n).status.extractLsb' 13 3 = s.status.extractLsb' 13 3 :=
  extract_setField_other _ _ _ _ _ _ (by decide) (by decide)

end setCnt

end Sys2Proof.Machine
end

