-- ==== Sys2Proof/Laws/Ops.lean ====
section
/-! SUPPORT. What the shared register operations can do: `raise Fault`, `signal Tag`, reset. -/

namespace Sys2Proof.Machine

/-! ### `raise Fault` (R213, R214) -/

theorem raiseFault_of_clear (k : FaultKind) (s : State) (h : s.fault = 0#2) :
    raiseFault k s = s.setFault (faultCode k) := if_pos h

theorem raiseFault_of_faulted (k : FaultKind) (s : State) (h : s.fault ≠ 0#2) : raiseFault k s = s := if_neg h

/-- Everything `raiseFault` can do. -/
theorem raiseFault_cases (k : FaultKind) (s : State) :
    (s.fault = 0#2 ∧ raiseFault k s = s.setFault (faultCode k)) ∨ (s.fault ≠ 0#2 ∧ raiseFault k s = s) := by
  by_cases h : s.fault = 0#2
  · exact .inl ⟨h, raiseFault_of_clear k s h⟩
  · exact .inr ⟨h, raiseFault_of_faulted k s h⟩

theorem faultCode_ne_zero (k : FaultKind) : faultCode k ≠ 0#2 := by cases k <;> decide

/-- After a `raise` a fault is recorded. -/
theorem raiseFault_fault_ne_zero (k : FaultKind) (s : State) : (raiseFault k s).fault ≠ 0#2 := by
  rcases raiseFault_cases k s with ⟨-, e⟩ | ⟨h, e⟩ <;> rw [e]
  · simpa using faultCode_ne_zero k
  · exact h

section raise

variable (k : FaultKind) (s : State)

@[simp] theorem raiseFault_cmd : (raiseFault k s).cmd = s.cmd := by rcases raiseFault_cases k s with ⟨-, e⟩ | ⟨-, e⟩ <;> simp [e]
@[simp] theorem raiseFault_id : (raiseFault k s).id = s.id := by rcases raiseFault_cases k s with ⟨-, e⟩ | ⟨-, e⟩ <;> simp [e]
@[simp] theorem raiseFault_dflt : (raiseFault k s).dflt = s.dflt := by rcases raiseFault_cases k s with ⟨-, e⟩ | ⟨-, e⟩ <;> simp [e]
@[simp] theorem raiseFault_decLen : (raiseFault k s).decLen = s.decLen := by rcases raiseFault_cases k s with ⟨-, e⟩ | ⟨-, e⟩ <;> simp [e]
@[simp] theorem raiseFault_dec : (raiseFault k s).dec = s.dec := by rcases raiseFault_cases k s with ⟨-, e⟩ | ⟨-, e⟩ <;> simp [e]
@[simp] theorem raiseFault_b32Len : (raiseFault k s).b32Len = s.b32Len := by rcases raiseFault_cases k s with ⟨-, e⟩ | ⟨-, e⟩ <;> simp [e]
@[simp] theorem raiseFault_cw : (raiseFault k s).cw = s.cw := by rcases raiseFault_cases k s with ⟨-, e⟩ | ⟨-, e⟩ <;> simp [e]
@[simp] theorem raiseFault_p : (raiseFault k s).p = s.p := by rcases raiseFault_cases k s with ⟨-, e⟩ | ⟨-, e⟩ <;> simp [e]
@[simp] theorem raiseFault_syn : (raiseFault k s).syn = s.syn := by rcases raiseFault_cases k s with ⟨-, e⟩ | ⟨-, e⟩ <;> simp [e]
@[simp] theorem raiseFault_str : (raiseFault k s).str = s.str := by rcases raiseFault_cases k s with ⟨-, e⟩ | ⟨-, e⟩ <;> simp [e]
@[simp] theorem raiseFault_res : (raiseFault k s).res = s.res := by rcases raiseFault_cases k s with ⟨-, e⟩ | ⟨-, e⟩ <;> simp [e]
@[simp] theorem raiseFault_pending : (raiseFault k s).pending = s.pending := by rcases raiseFault_cases k s with ⟨-, e⟩ | ⟨-, e⟩ <;> simp [e]
@[simp] theorem raiseFault_returned : (raiseFault k s).returned = s.returned := by rcases raiseFault_cases k s with ⟨-, e⟩ | ⟨-, e⟩ <;> simp [e]
@[simp] theorem raiseFault_draws : (raiseFault k s).draws = s.draws := by rcases raiseFault_cases k s with ⟨-, e⟩ | ⟨-, e⟩ <;> simp [e]
@[simp] theorem raiseFault_scratchEpoch : (raiseFault k s).scratchEpoch = s.scratchEpoch := by rcases raiseFault_cases k s with ⟨-, e⟩ | ⟨-, e⟩ <;> simp [e]
@[simp] theorem raiseFault_tag : (raiseFault k s).tag = s.tag := by rcases raiseFault_cases k s with ⟨-, e⟩ | ⟨-, e⟩ <;> simp [e]
@[simp] theorem raiseFault_valid : (raiseFault k s).valid = s.valid := by rcases raiseFault_cases k s with ⟨-, e⟩ | ⟨-, e⟩ <;> simp [e]
@[simp] theorem raiseFault_ovf : (raiseFault k s).ovf = s.ovf := by rcases raiseFault_cases k s with ⟨-, e⟩ | ⟨-, e⟩ <;> simp [e]
@[simp] theorem raiseFault_busy : (raiseFault k s).busy = s.busy := by rcases raiseFault_cases k s with ⟨-, e⟩ | ⟨-, e⟩ <;> simp [e]
@[simp] theorem raiseFault_cnt : (raiseFault k s).cnt = s.cnt := by rcases raiseFault_cases k s with ⟨-, e⟩ | ⟨-, e⟩ <;> simp [e]
@[simp] theorem raiseFault_reserved7 : (raiseFault k s).status.extractLsb' 7 1 = s.status.extractLsb' 7 1 := by
  rcases raiseFault_cases k s with ⟨-, e⟩ | ⟨-, e⟩ <;> rw [e]
  exact State.setFault_reserved7 s (faultCode k)
@[simp] theorem raiseFault_reserved13 : (raiseFault k s).status.extractLsb' 13 3 = s.status.extractLsb' 13 3 := by
  rcases raiseFault_cases k s with ⟨-, e⟩ | ⟨-, e⟩ <;> rw [e]
  exact State.setFault_reserved13 s (faultCode k)

end raise

/-! ### `signal Tag` (R211) -/

@[simp] theorem signalTag_eq (t : Tag) (s : State) : signalTag t s = s.setTag (tagCode t) := rfl

theorem tagCode_ne_three (t : Tag) : tagCode t ≠ 3#2 := by cases t <;> decide

/-! ### Reset (R241) -/

section reset

variable (s : State)

@[simp] theorem resetBlock_cmd : (resetBlock s).cmd = 0x0000#16 := rfl
@[simp] theorem resetBlock_status : (resetBlock s).status = 0x0000#16 := rfl
@[simp] theorem resetBlock_pending : (resetBlock s).pending = s.pending := rfl
@[simp] theorem resetBlock_returned : (resetBlock s).returned = s.returned := rfl
@[simp] theorem resetBlock_draws : (resetBlock s).draws = s.draws + 1 := rfl
@[simp] theorem resetBlock_scratchEpoch : (resetBlock s).scratchEpoch = s.scratchEpoch + 1 := rfl
@[simp] theorem resetBlock_tag : (resetBlock s).tag = 0#2 := by simp [State.tag]
@[simp] theorem resetBlock_valid : (resetBlock s).valid = 0#1 := by simp [State.valid]
@[simp] theorem resetBlock_ovf : (resetBlock s).ovf = 0#1 := by simp [State.ovf]
@[simp] theorem resetBlock_busy : (resetBlock s).busy = 0#1 := by simp [State.busy]
@[simp] theorem resetBlock_fault : (resetBlock s).fault = 0#2 := by simp [State.fault]
@[simp] theorem resetBlock_cnt : (resetBlock s).cnt = 0#5 := by simp [State.cnt]

end reset

/-! ### The register space (R61, R64, R65) -/

/-- What the host reads depends on no fields of the model's own. -/
theorem readReg_giveBack (s : State) (v : HostData) (r : Reg) : readReg (s.giveBack v) r = readReg s r := by
  cases r <;> rfl

theorem readReg_countDraw (s : State) (r : Reg) : readReg s.countDraw r = readReg s r := by cases r <;> rfl

theorem readReg_freshScratch (s : State) (r : Reg) : readReg s.freshScratch r = readReg s r := by cases r <;> rfl

/-- Everything a write of a register that the host may write can do. -/
theorem writeReg_cases (s : State) (r : Reg) (v : HostData) (h : regWritable r = true) :
    (r = .cmd ∧ writeReg s r v = s.setCmd (v.setWidth 16)) ∨ (r = .id ∧ writeReg s r v = s.setId v) ∨
    (r = .dflt ∧ writeReg s r v = s.setDflt v) ∨ (r = .decLen ∧ writeReg s r v = s.setDecLen (v.setWidth 5)) ∨
    (∃ i, r = .dec i ∧ writeReg s r v = s.setDec (s.dec.set i.val (v.setWidth 4) i.isLt)) ∨
    ∃ k, r = .cw k ∧ writeReg s r v = s.setCw (s.cw.set k.val (v.setWidth 5) k.isLt) := by
  cases r <;> simp_all [regWritable, writeReg]

@[simp] theorem writeReg_status (s : State) (r : Reg) (v : HostData) : (writeReg s r v).status = s.status := by
  cases r <;> rfl

end Sys2Proof.Machine
end

