-- ==== Sys2Proof/Laws/Operands.lean ====
section
/-! SUPPORT. What the operand functions and the sequencer's passes compute, one lemma per definition. -/

namespace Sys2Proof.Machine

/-! ### Values of digit sequences -/

@[simp] theorem valMsf_nil (base : Nat) : valMsf base [] = 0 := rfl

theorem valMsf_append_singleton (base : Nat) (ds : List Nat) (d : Nat) :
    valMsf base (ds ++ [d]) = valMsf base ds * base + d := by simp [valMsf]

/-- The value of a sequence is Mathlib's `Nat.ofDigits` of it reversed. -/
theorem valMsf_eq_ofDigits (base : Nat) (ds : List Nat) : valMsf base ds = Nat.ofDigits base ds.reverse := by
  induction ds using List.reverseRecOn with
  | nil => simp
  | append_singleton ds d ih => simp [valMsf_append_singleton, ih, Nat.ofDigits_cons]; ring

theorem length_dataSymbols (code : Vector Sym 17) : (dataSymbols code).length = 13 := by simp [dataSymbols]

theorem length_dataDigitsMsf (code : Vector Sym 17) : (dataDigitsMsf code).length = 13 := by
  simp [dataDigitsMsf, length_dataSymbols]

/-- Every data digit is a base-32 digit. -/
theorem dataDigitsMsf_lt (code : Vector Sym 17) : ∀ d ∈ dataDigitsMsf code, d < 32 := by
  intro d hd
  simp only [dataDigitsMsf, List.mem_reverse, List.mem_map] at hd
  obtain ⟨x, -, rfl⟩ := hd
  exact x.isLt

/-! ### Results into registers -/

@[simp] theorem writeResSym_eq (x : Sym) (s : State) : writeResSym x s = s.setRes (x.setWidth 8) := rfl

/-- `writeDecimal` writes `DECLEN` and `DEC` and nothing else. -/
theorem writeDecimal_eq (ds : List Nat) (s : State) :
    writeDecimal ds s = { s with
      decLen := BitVec.ofNat 5 ds.length, dec := Vector.ofFn fun i => BitVec.ofNat 4 (ds.getD i.val 0) } := rfl

/-! ### GF(32) and the shift register -/

theorem logOf_zero : logOf 0#5 = none := rfl

theorem gmul_of_some (a b x y : Sym) (ha : logOf a = some x) (hb : logOf b = some y) :
    gmul a b = antilogMod (x.toNat + y.toNat) := by simp [gmul, ha, hb]

theorem gmul_zero_left (b : Sym) : gmul 0#5 b = 0#5 := rfl

theorem gmul_zero_right (a : Sym) : gmul a 0#5 = 0#5 := by
  unfold gmul
  rw [logOf_zero]
  cases logOf a <;> rfl

/-- One step of the shift register with its constants (R151). -/
theorem lfsrStep_eq (p : Vector Sym 4) (x : Sym) :
    lfsrStep p x = #v[gmul 17 (x ^^^ p[3]), p[0] ^^^ gmul 9 (x ^^^ p[3]), p[1] ^^^ gmul 6 (x ^^^ p[3]),
      p[2] ^^^ gmul 30 (x ^^^ p[3])] := rfl

/-! ### The passes of the sequencer -/

theorem divPass_nil (bin bout : Nat) : divPass bin bout [] = ([], 0) := rfl

/-- A pass over one more digit is one more digit step. -/
theorem divPass_append_singleton (bin bout : Nat) (wk : List Nat) (d : Nat) :
    divPass bin bout (wk ++ [d]) = divDigit bin bout (divPass bin bout wk) d := by simp [divPass]

/-- Everything one digit step can do: store a quotient digit, store an inner zero, or skip a leading zero. -/
theorem divDigit_cases (bin bout : Nat) (q : List Nat) (acc d : Nat) :
    (bout ≤ acc * bin + d ∧
      divDigit bin bout (q, acc) d = (q ++ [(acc * bin + d) / bout], (acc * bin + d) % bout)) ∨
    (acc * bin + d < bout ∧ q ≠ [] ∧ divDigit bin bout (q, acc) d = (q ++ [0], acc * bin + d)) ∨
    (acc * bin + d < bout ∧ q = [] ∧ divDigit bin bout (q, acc) d = ([], acc * bin + d)) := by
  by_cases h : bout ≤ acc * bin + d
  · exact .inl ⟨h, by simp [divDigit, h]⟩
  · by_cases hq : q = []
    · exact .inr (.inr ⟨by omega, hq, by simp [divDigit, h, hq]⟩)
    · exact .inr (.inl ⟨by omega, hq, by simp [divDigit, h, hq]⟩)

theorem convertDigits_zero (bin bout : Nat) (wk : List Nat) : convertDigits bin bout 0 wk = [] := rfl

/-- One round of the conversion loop (R134, R135). -/
theorem convertDigits_succ (bin bout fuel : Nat) (wk : List Nat) :
    convertDigits bin bout (fuel + 1) wk =
      (divPass bin bout wk).2 ::
        (if (divPass bin bout wk).1 = [] then [] else convertDigits bin bout fuel (divPass bin bout wk).1) := by
  rw [convertDigits]
  split <;> rename_i h <;> simp_all

/-- The conversion emits at most as many digits as it has rounds. -/
theorem length_convertDigits_le (bin bout fuel : Nat) (wk : List Nat) :
    (convertDigits bin bout fuel wk).length ≤ fuel := by
  induction fuel generalizing wk with
  | zero => simp [convertDigits_zero]
  | succ fuel ih =>
    rw [convertDigits_succ]
    split
    · simp
    · simpa using ih _

end Sys2Proof.Machine
end

