-- ==== Sys2Proof/Laws/Meanings.lean ====
section
/-! SUPPORT. Everything the effects of the commands can do, said once each, and what no command touches. -/

namespace Sys2Proof.Machine

/-! ### Base conversion -/

theorem idToDec_eq (s : State) : idToDec s = writeDecimal (decimalDigits s.id.toNat) s := rfl

theorem b32To10_eq (s : State) : b32To10 s = writeDecimal (convertDigits 32 10 20 (dataDigitsMsf s.cw)).reverse s := rfl

theorem decToId_cases (s : State) :
    (decLegal s = true ∧ decToId s = (s.setId (BitVec.ofNat 64 (decValue s))).setOvf (ovfFlag (decValue s))) ∨
    (decLegal s = false ∧ decToId s = raiseFault .illegalOperand s) := by
  cases h : decLegal s <;> simp [decToId, h]

theorem b10To32_cases (s : State) :
    (decLegal s = true ∧ decValue s < 32 ^ 13 ∧
      b10To32 s = (s.setCw (writeData (convertDigits 10 32 13 (decDigits s)) s.cw)).setB32Len
        (BitVec.ofNat 4 (convertDigits 10 32 13 (decDigits s)).length)) ∨
    (¬ (decLegal s = true ∧ decValue s < 32 ^ 13) ∧ b10To32 s = raiseFault .illegalOperand s) := by
  by_cases h : decLegal s = true ∧ decValue s < 32 ^ 13
  · exact .inl ⟨h.1, h.2, if_pos (by rw [h.1, decide_eq_true h.2]; rfl)⟩
  · refine .inr ⟨h, if_neg ?_⟩
    simpa [Bool.and_eq_true] using h

/-! ### The codeword and the check -/

theorem rsPar_eq (s : State) : rsPar s = { s with p := parityOf s.cw, cw := writeParity (parityOf s.cw) s.cw } := rfl

theorem syndromeCheck_eq (s : State) :
    syndromeCheck s = { s with
      syn := syndromes s.cw, status := setField s.status 2 1 (validFlag (syndromes s.cw)) } := rfl

@[simp] theorem syndromeCheck_valid (s : State) : (syndromeCheck s).valid = validFlag (syndromes s.cw) := by
  simp [syndromeCheck]

@[simp] theorem syndromeCheck_tag (s : State) : (syndromeCheck s).tag = s.tag := by simp [syndromeCheck]

@[simp] theorem syndromeCheck_cw (s : State) : (syndromeCheck s).cw = s.cw := rfl

/-- The verdict is 1 exactly when every syndrome is 0. -/
theorem validFlag_eq_one_iff (v : Vector Sym 4) : validFlag v = 1#1 ↔ ∀ i : Fin 4, v[i] = 0#5 := by
  unfold validFlag
  cases h : v.toList.all (· == 0#5) <;> simp at h
  · obtain ⟨i, hi, hne⟩ := h
    exact ⟨fun e => absurd e (by decide), fun e => absurd (e ⟨i, hi⟩) hne⟩
  · exact ⟨fun _ i => h i.val i.isLt, fun _ => rfl⟩

/-! ### The scan -/

/-- Everything `PUTC` can do (R179). -/
theorem putC_cases (c : CharCode) (s : State) :
    (s.tag ≠ 0#2 ∧ putC c s = s) ∨
    (s.tag = 0#2 ∧ indexOf c = none ∧ putC c s = s) ∨
    (∃ x, s.tag = 0#2 ∧ indexOf c = some x ∧ ∃ h : s.cnt.toNat < 17,
      putC c s = (s.setCw (s.cw.set (perm ⟨s.cnt.toNat, h⟩) x)).setCnt (s.cnt + 1#5)) ∨
    (∃ x, s.tag = 0#2 ∧ indexOf c = some x ∧ 17 ≤ s.cnt.toNat ∧ putC c s = s.setTag 1#2) := by
  unfold putC
  split
  · exact .inl ⟨‹_›, rfl⟩
  · rename_i ht
    replace ht : s.tag = 0#2 := not_not.mp ht
    split
    · exact .inr (.inl ⟨ht, ‹_›, rfl⟩)
    · rename_i x hx
      split
      · rename_i h
        exact .inr (.inr (.inl ⟨x, ht, hx, h, rfl⟩))
      · exact .inr (.inr (.inr ⟨x, ht, hx, by omega, rfl⟩))

/-- Everything `PEND` can do (R180). -/
theorem pEnd_cases (s : State) :
    (s.tag ≠ 0#2 ∧ pEnd s = s) ∨
    (s.tag = 0#2 ∧ s.cnt ≠ 17#5 ∧ pEnd s = s.setTag 2#2) ∨
    (s.tag = 0#2 ∧ s.cnt = 17#5 ∧ (syndromeCheck s).valid = 0#1 ∧ pEnd s = (syndromeCheck s).setTag 2#2) ∨
    (s.tag = 0#2 ∧ s.cnt = 17#5 ∧ (syndromeCheck s).valid = 1#1 ∧ pEnd s = syndromeCheck s) := by
  unfold pEnd
  split
  · exact .inl ⟨‹_›, rfl⟩
  · rename_i ht
    replace ht : s.tag = 0#2 := not_not.mp ht
    split
    · exact .inr (.inl ⟨ht, ‹_›, rfl⟩)
    · rename_i hc
      replace hc : s.cnt = 17#5 := not_not.mp hc
      split
      · exact .inr (.inr (.inl ⟨ht, hc, ‹_›, rfl⟩))
      · rename_i hv
        refine .inr (.inr (.inr ⟨ht, hc, ?_, rfl⟩))
        rcases BitVec.eq_zero_or_eq_one (syndromeCheck s).valid with h | h
        · exact absurd h hv
        · exact h

/-- Everything `DECODE` can do, in terms of its `PEND` step (R191). -/
theorem decodeCw_cases (s : State) :
    ((pEnd s).tag ≠ 0#2 ∧ decodeCw s = pEnd s) ∨
    ((pEnd s).tag = 0#2 ∧ decodeCw s = decToId (b32To10 (pEnd s))) := by
  by_cases h : (pEnd s).tag = 0#2
  · exact .inr ⟨h, by simp [decodeCw, h]⟩
  · exact .inl ⟨h, by simp [decodeCw, h]⟩

/-- Everything `DECODED` can do, in terms of its `DECODE` step (R192). -/
theorem decodeOrDefault_cases (s : State) :
    ((decodeCw s).tag ≠ 0#2 ∧ decodeOrDefault s = ((decodeCw s).setId (decodeCw s).dflt).setTag 0#2) ∨
    ((decodeCw s).tag = 0#2 ∧ decodeOrDefault s = decodeCw s) := by
  by_cases h : (decodeCw s).tag = 0#2
  · exact .inr ⟨h, by simp [decodeOrDefault, h]⟩
  · exact .inl ⟨h, by simp [decodeOrDefault, h, tagCode]⟩

/-! ### What no command does -/

/-- Every meaning answers a next state: nothing stops the block (entry 12). -/
theorem exec_answers_next (i : Instr) (s : State) : ∃ t, exec i s = .next t := by
  cases i with
  | gflog a => unfold exec execGflog; dsimp only; split <;> exact ⟨_, rfl⟩
  | chsym c => unfold exec execChsym; dsimp only; split <;> exact ⟨_, rfl⟩
  | permrd a => unfold exec execPermrd; dsimp only; split <;> exact ⟨_, rfl⟩
  | _ => exact ⟨_, rfl⟩

/-- The registers and model fields that no command writes: `CMD` (the port stores the word), `DFLT` (R23), the
host's queue and answers, the counters of free values. -/
def hostSide (s : State) : CmdWord × BitVec 64 × List HostEvent × List HostData × Nat × Nat :=
  (s.cmd, s.dflt, s.pending, s.returned, s.draws, s.scratchEpoch)

theorem hostSide_raiseFault (k : FaultKind) (s : State) : hostSide (raiseFault k s) = hostSide s := by
  simp [hostSide]

theorem hostSide_writeDecimal (ds : List Nat) (s : State) : hostSide (writeDecimal ds s) = hostSide s := by
  simp [hostSide, writeDecimal]

theorem hostSide_rsPar (s : State) : hostSide (rsPar s) = hostSide s := by simp [hostSide, rsPar]

theorem hostSide_fmtStr (s : State) : hostSide (fmtStr s) = hostSide s := by simp [hostSide, fmtStr]

theorem hostSide_syndromeCheck (s : State) : hostSide (syndromeCheck s) = hostSide s := by
  simp [hostSide, syndromeCheck]

theorem hostSide_setTag (s : State) (t : BitVec 2) : hostSide (s.setTag t) = hostSide s := by simp [hostSide]

theorem hostSide_setRes (s : State) (v : BitVec 8) : hostSide (s.setRes v) = hostSide s := by simp [hostSide]

theorem hostSide_decToId (s : State) : hostSide (decToId s) = hostSide s := by
  rcases decToId_cases s with ⟨-, e⟩ | ⟨-, e⟩ <;> rw [e]
  · simp [hostSide]
  · exact hostSide_raiseFault _ s

theorem hostSide_b10To32 (s : State) : hostSide (b10To32 s) = hostSide s := by
  rcases b10To32_cases s with ⟨-, -, e⟩ | ⟨-, e⟩ <;> rw [e]
  · simp [hostSide]
  · exact hostSide_raiseFault _ s

theorem hostSide_putC (c : CharCode) (s : State) : hostSide (putC c s) = hostSide s := by
  rcases putC_cases c s with ⟨-, e⟩ | ⟨-, -, e⟩ | ⟨x, -, -, h, e⟩ | ⟨x, -, -, -, e⟩ <;> rw [e]
  · simp [hostSide]
  · exact hostSide_setTag s 1#2

theorem hostSide_pEnd (s : State) : hostSide (pEnd s) = hostSide s := by
  rcases pEnd_cases s with ⟨-, e⟩ | ⟨-, -, e⟩ | ⟨-, -, -, e⟩ | ⟨-, -, -, e⟩ <;> rw [e]
  · exact hostSide_setTag s 2#2
  · rw [hostSide_setTag, hostSide_syndromeCheck]
  · exact hostSide_syndromeCheck s

theorem hostSide_decodeCw (s : State) : hostSide (decodeCw s) = hostSide s := by
  rcases decodeCw_cases s with ⟨-, e⟩ | ⟨-, e⟩ <;> rw [e]
  · exact hostSide_pEnd s
  · rw [hostSide_decToId, b32To10_eq, hostSide_writeDecimal, hostSide_pEnd]

theorem hostSide_decodeOrDefault (s : State) : hostSide (decodeOrDefault s) = hostSide s := by
  rcases decodeOrDefault_cases s with ⟨-, e⟩ | ⟨-, e⟩ <;> rw [e]
  · rw [hostSide_setTag, ← hostSide_decodeCw s]; simp [hostSide]
  · exact hostSide_decodeCw s

theorem hostSide_encodeId (s : State) : hostSide (encodeId s) = hostSide s := by
  rw [encodeId, hostSide_fmtStr, hostSide_rsPar, hostSide_b10To32, idToDec_eq, hostSide_writeDecimal]

/-- No command changes the host's side of the state. -/
theorem exec_keeps_hostSide (i : Instr) (s t : State) (h : exec i s = .next t) : hostSide t = hostSide s := by
  cases i with
  | nop => cases h; rfl
  | gfadd a b => cases h; exact hostSide_setRes s _
  | gfmul a b => cases h; exact hostSide_setRes s _
  | gfexp a => cases h; exact hostSide_setRes s _
  | gflog a =>
    unfold exec execGflog at h
    dsimp only at h
    split at h <;> cases h
    · exact hostSide_raiseFault _ s
    · exact hostSide_setRes s _
  | symch a => cases h; exact hostSide_setRes s _
  | chsym c => unfold exec execChsym at h; dsimp only at h; split at h <;> cases h <;> exact hostSide_setRes s _
  | permrd a =>
    unfold exec execPermrd at h
    dsimp only at h
    split at h <;> cases h
    · exact hostSide_setRes s _
    · exact hostSide_raiseFault _ s
  | idtodec => cases h; exact hostSide_writeDecimal _ s
  | dectoid => cases h; exact hostSide_decToId s
  | b10to32 => cases h; exact hostSide_b10To32 s
  | b32to10 => cases h; exact hostSide_writeDecimal _ s
  | rspar => cases h; exact hostSide_rsPar s
  | rschk => cases h; exact hostSide_syndromeCheck s
  | fmt => cases h; exact hostSide_fmtStr s
  | pbegin => cases h; simp [hostSide, pBegin]
  | putc c => cases h; exact hostSide_putC c s
  | pend => cases h; exact hostSide_pEnd s
  | encode => cases h; exact hostSide_encodeId s
  | decode => cases h; exact hostSide_decodeCw s
  | decoded => cases h; exact hostSide_decodeOrDefault s
  | clrst => cases h; simp [hostSide]

end Sys2Proof.Machine
end

