-- ==== Sys2Proof/Laws/PerInstr.lean ====
section
/-! SUPPORT. The facts that are stated for every instruction, one lemma per constructor. -/

/-- The word of the instruction equals, under the mask that R93 prints for it, the word that R93 prints. -/
def Sys2Proof.Laws.EncodingRow.Statement (i : Sys2Proof.Instr) : Prop :=
  Sys2Proof.encode i &&& (Sys2Proof.opcodeRow i).mask = (Sys2Proof.opcodeRow i).word

theorem Sys2Proof.Laws.EncodingRow.nop :
    Sys2Proof.Laws.EncodingRow.Statement .nop := rfl

theorem Sys2Proof.Laws.EncodingRow.gfadd (a b : Sys2Proof.Sym) :
    Sys2Proof.Laws.EncodingRow.Statement (.gfadd a b) := by
  revert a b; unfold Sys2Proof.Laws.EncodingRow.Statement; decide

theorem Sys2Proof.Laws.EncodingRow.gfmul (a b : Sys2Proof.Sym) :
    Sys2Proof.Laws.EncodingRow.Statement (.gfmul a b) := by
  revert a b; unfold Sys2Proof.Laws.EncodingRow.Statement; decide

theorem Sys2Proof.Laws.EncodingRow.gfexp (a : Sys2Proof.Sym) :
    Sys2Proof.Laws.EncodingRow.Statement (.gfexp a) := by
  revert a; unfold Sys2Proof.Laws.EncodingRow.Statement; decide

theorem Sys2Proof.Laws.EncodingRow.gflog (a : Sys2Proof.Sym) :
    Sys2Proof.Laws.EncodingRow.Statement (.gflog a) := by
  revert a; unfold Sys2Proof.Laws.EncodingRow.Statement; decide

theorem Sys2Proof.Laws.EncodingRow.symch (a : Sys2Proof.Sym) :
    Sys2Proof.Laws.EncodingRow.Statement (.symch a) := by
  revert a; unfold Sys2Proof.Laws.EncodingRow.Statement; decide

theorem Sys2Proof.Laws.EncodingRow.chsym (c : Sys2Proof.CharCode) :
    Sys2Proof.Laws.EncodingRow.Statement (.chsym c) := by
  revert c; unfold Sys2Proof.Laws.EncodingRow.Statement; decide

theorem Sys2Proof.Laws.EncodingRow.permrd (a : Sys2Proof.Sym) :
    Sys2Proof.Laws.EncodingRow.Statement (.permrd a) := by
  revert a; unfold Sys2Proof.Laws.EncodingRow.Statement; decide

theorem Sys2Proof.Laws.EncodingRow.idtodec :
    Sys2Proof.Laws.EncodingRow.Statement .idtodec := rfl

theorem Sys2Proof.Laws.EncodingRow.dectoid :
    Sys2Proof.Laws.EncodingRow.Statement .dectoid := rfl

theorem Sys2Proof.Laws.EncodingRow.b10to32 :
    Sys2Proof.Laws.EncodingRow.Statement .b10to32 := rfl

theorem Sys2Proof.Laws.EncodingRow.b32to10 :
    Sys2Proof.Laws.EncodingRow.Statement .b32to10 := rfl

theorem Sys2Proof.Laws.EncodingRow.rspar :
    Sys2Proof.Laws.EncodingRow.Statement .rspar := rfl

theorem Sys2Proof.Laws.EncodingRow.rschk :
    Sys2Proof.Laws.EncodingRow.Statement .rschk := rfl

theorem Sys2Proof.Laws.EncodingRow.fmt :
    Sys2Proof.Laws.EncodingRow.Statement .fmt := rfl

theorem Sys2Proof.Laws.EncodingRow.pbegin :
    Sys2Proof.Laws.EncodingRow.Statement .pbegin := rfl

theorem Sys2Proof.Laws.EncodingRow.putc (c : Sys2Proof.CharCode) :
    Sys2Proof.Laws.EncodingRow.Statement (.putc c) := by
  revert c; unfold Sys2Proof.Laws.EncodingRow.Statement; decide

theorem Sys2Proof.Laws.EncodingRow.pend :
    Sys2Proof.Laws.EncodingRow.Statement .pend := rfl

theorem Sys2Proof.Laws.EncodingRow.encode :
    Sys2Proof.Laws.EncodingRow.Statement .encode := rfl

theorem Sys2Proof.Laws.EncodingRow.decode :
    Sys2Proof.Laws.EncodingRow.Statement .decode := rfl

theorem Sys2Proof.Laws.EncodingRow.decoded :
    Sys2Proof.Laws.EncodingRow.Statement .decoded := rfl

theorem Sys2Proof.Laws.EncodingRow.clrst :
    Sys2Proof.Laws.EncodingRow.Statement .clrst := rfl
end

