-- ==== Sys2Proof/Laws/Step.lean ====
section
/-! SUPPORT. Everything one step can do, said once: the later proofs about steps cite these and unfold nothing. -/

namespace Sys2Proof.Machine

theorem afterCommand_next (t : State) : afterCommand (.next t) = .next t.freshScratch := rfl

/-- Everything a write of `CMD` outside the faulted state can do (R66, R99). -/
theorem runCommand_cases (w : CmdWord) (s t : State) (h : runCommand w s = .next t) :
    (∃ i u, decode w = .ok i ∧ exec i (s.setCmd w) = .next u ∧ t = u.freshScratch) ∨
    (∃ e, decode w = .error e ∧ t = raiseFault .illegalCommand (s.setCmd w)) := by
  unfold runCommand at h
  split at h
  · rename_i i hi
    obtain ⟨u, hu⟩ := exec_answers_next i (s.setCmd w)
    rw [hu, afterCommand_next] at h
    cases h
    exact .inl ⟨i, u, hi, hu, rfl⟩
  · rename_i e he
    cases h
    exact .inr ⟨e, he, rfl⟩

theorem regAt_cmd : regAt 0x00#8 = some .cmd := rfl

/-- Everything `HostRead` can do (R64). -/
theorem hostRead_cases (idx : RegIndex) (s : State) :
    (∃ r, regAt idx = some r ∧ hostRead idx s = s.giveBack (readReg s r)) ∨
    (regAt idx = none ∧
      hostRead idx s = ((raiseFault .illegalAccess s).giveBack (Config.freeRead s.draws)).countDraw) := by
  unfold hostRead
  split
  · exact .inl ⟨_, ‹_›, rfl⟩
  · exact .inr ⟨‹_›, rfl⟩

/-- Everything `HostWrite` can do (R65). -/
theorem hostWrite_cases (idx : RegIndex) (v : HostData) (s t : State) (h : hostWrite idx v s = .next t) :
    (s.fault ≠ 0#2 ∧ t = s) ∨
    (s.fault = 0#2 ∧ regAt idx = some .cmd ∧ runCommand (v.setWidth 16) s = .next t) ∨
    (s.fault = 0#2 ∧ ∃ r, regAt idx = some r ∧ r ≠ .cmd ∧ regWritable r = true ∧ t = writeReg s r v) ∨
    (s.fault = 0#2 ∧ t = s.setFault 3#2 ∧ (regAt idx = none ∨ ∃ r, regAt idx = some r ∧ regWritable r = false)) := by
  unfold hostWrite at h
  split at h
  · cases h
    exact .inl ⟨‹_›, rfl⟩
  · rename_i hf
    replace hf : s.fault = 0#2 := not_not.mp hf
    have hr : raiseFault .illegalAccess s = s.setFault 3#2 := raiseFault_of_clear _ s hf
    split at h
    · cases h
      exact .inr (.inr (.inr ⟨hf, hr, .inl ‹_›⟩))
    · exact .inr (.inl ⟨hf, ‹_›, h⟩)
    · rename_i r hne hreg
      split at h <;> cases h
      · exact .inr (.inr (.inl ⟨hf, r, hreg, hne, ‹_›, rfl⟩))
      · rename_i hw
        exact .inr (.inr (.inr ⟨hf, hr, .inr ⟨r, hreg, Bool.eq_false_iff.mpr hw⟩⟩))

/-- Everything a step can do: idle, a read, a write, a reset. -/
theorem step_cases (s t : State) (h : step s = .next t) :
    (s.pending = [] ∧ t = s) ∨
    (∃ idx rest, s.pending = .read idx :: rest ∧ t = hostRead idx { s with pending := rest }) ∨
    (∃ idx v rest, s.pending = .write idx v :: rest ∧ hostWrite idx v { s with pending := rest } = .next t) ∨
    (∃ rest, s.pending = .reset :: rest ∧ t = resetBlock { s with pending := rest }) := by
  unfold step performNext at h
  split at h
  · cases h
    exact .inl ⟨‹_›, rfl⟩
  · rename_i e rest hp
    cases e with
    | read idx =>
      cases h
      exact .inr (.inl ⟨idx, rest, hp, rfl⟩)
    | write idx v => exact .inr (.inr (.inl ⟨idx, v, rest, hp, h⟩))
    | reset =>
      cases h
      exact .inr (.inr (.inr ⟨rest, hp, rfl⟩))

/-- A step at a given next event is that event performed on the state behind it. -/
theorem step_of_pending (s : State) (e : HostEvent) (rest : List HostEvent) (h : s.pending = e :: rest) :
    step s = perform e { s with pending := rest } := by
  unfold step performNext
  rw [h]

end Sys2Proof.Machine
end

