-- ==== Sys2Proof/Tests/Slice0.lean ====
section
/-! SUPPORT. The model's own tests: words written out bit by bit from `30_encoding.md` R91 to R93, the smoke tests of
the well-formedness checks, vectors of `95_test_vectors.md` (the section is named at each), and a witness for the
hypotheses of each statement that has some. Every expected value is the spec's. -/

namespace Sys2Proof.Tests

open Sys2Proof Sys2Proof.Machine

/-! ### Decoding: words from the formats of R91 -/

theorem test_decode_nop : decode 0b00000_00000000000#16 = .ok .nop := by decide
theorem test_decode_gfadd : decode 0b00001_0_10100_01101#16 = .ok (.gfadd 20 13) := by decide
theorem test_decode_gfmul : decode 0b00010_0_00111_01011#16 = .ok (.gfmul 7 11) := by decide
theorem test_decode_gfexp : decode 0b00011_000000_00111#16 = .ok (.gfexp 7) := by decide
theorem test_decode_gflog : decode 0b00100_000000_01011#16 = .ok (.gflog 11) := by decide
theorem test_decode_symch : decode 0b00101_000000_10001#16 = .ok (.symch 17) := by decide
theorem test_decode_chsym : decode 0b00110_000_01001011#16 = .ok (.chsym 0x4B) := by decide
theorem test_decode_permrd : decode 0b00111_000000_01000#16 = .ok (.permrd 8) := by decide
theorem test_decode_idtodec : decode 0b01000_00000000000#16 = .ok .idtodec := by decide
theorem test_decode_dectoid : decode 0b01001_00000000000#16 = .ok .dectoid := by decide
theorem test_decode_b10to32 : decode 0b01010_00000000000#16 = .ok .b10to32 := by decide
theorem test_decode_b32to10 : decode 0b01011_00000000000#16 = .ok .b32to10 := by decide
theorem test_decode_rspar : decode 0b01100_00000000000#16 = .ok .rspar := by decide
theorem test_decode_rschk : decode 0b01101_00000000000#16 = .ok .rschk := by decide
theorem test_decode_fmt : decode 0b01110_00000000000#16 = .ok .fmt := by decide
theorem test_decode_pbegin : decode 0b01111_00000000000#16 = .ok .pbegin := by decide
theorem test_decode_putc : decode 0b10000_000_10000001#16 = .ok (.putc 0x81) := by decide
theorem test_decode_pend : decode 0b10001_00000000000#16 = .ok .pend := by decide
theorem test_decode_encode : decode 0b10010_00000000000#16 = .ok .encode := by decide
theorem test_decode_decode : decode 0b10011_00000000000#16 = .ok .decode := by decide
theorem test_decode_decoded : decode 0b10100_00000000000#16 = .ok .decoded := by decide
theorem test_decode_clrst : decode 0b10101_00000000000#16 = .ok .clrst := by decide

/-- Section 2.6: reserved `op` and each format's must-be-zero bits. -/
theorem test_decode_illegal :
    decode 0xB000#16 = .error .reservedOp ∧ decode 0xFFFF#16 = .error .reservedOp ∧
    decode 0xB7FF#16 = .error .reservedOp ∧ decode 0x0001#16 = .error .mustBeZero ∧
    decode 0x1400#16 = .error .mustBeZero ∧ decode 0x1820#16 = .error .mustBeZero ∧
    decode 0x8100#16 = .error .mustBeZero ∧ decode 0x9001#16 = .error .mustBeZero := by decide

theorem test_encode_words :
    encode (.gfmul 31 31) = 0x13FF#16 ∧ encode (.putc 0x4B) = 0x804B#16 ∧ encode .clrst = 0xA800#16 := by decide

theorem test_decodeTableWord :
    decodeTableWord 16 0x10EB = some (.gfmul 7 11) ∧ decodeTableWord 16 0xB000 = none := by decide

/-! ### Well-formedness: each check refuses an ill-formed term -/

theorem test_wellFormed_refuses_gflog_zero : (Instr.gflog 0).wellFormed = false := by decide
theorem test_wellFormed_refuses_permrd_17 :
    (Instr.permrd 17).wellFormed = false ∧ (Instr.permrd 16).wellFormed = true := by decide
theorem test_pseudo_refuses_empty_wrdec : pseudoWellFormed (.wrdec []) = false := by decide
theorem test_pseudo_refuses_21_digits : pseudoWellFormed (.wrdec (List.replicate 21 1)) = false := by decide
theorem test_pseudo_refuses_digit_ten : pseudoWellFormed (.wrdec [1, 10]) = false := by decide

/-! ### Small states -/

/-- The state an outcome continues with. -/
def after : Host.Outcome State Fault Refusal → State
  | .next t => t
  | .fault _ => State.reset
  | .refused _ => State.reset

/-- Reset with a codeword. -/
def withCw (l : List Nat) : State := { State.reset with cw := Vector.ofFn fun i => BitVec.ofNat 5 (l.getD i.val 0) }

/-- Reset with a decimal sequence. -/
def withDec (n : Nat) (l : List Nat) : State :=
  { State.reset with decLen := BitVec.ofNat 5 n, dec := Vector.ofFn fun i => BitVec.ofNat 4 (l.getD i.val 0) }

/-- Reset with a `STATUS` word. -/
def withStatus (w : BitVec 16) : State := { State.reset with status := w }

/-- The codeword of the source's literal vector (section 1.1). -/
def literalCw : List Nat := [15, 7, 3, 17, 13, 19, 23, 7, 29, 4, 12, 5, 7, 4, 2, 10, 30]

/-- The same with `CW[11]` 5 -> 6, the string `...9X6E8` (section 1.4). -/
def alteredCw : List Nat := [15, 7, 3, 17, 13, 19, 23, 7, 29, 4, 12, 6, 7, 4, 2, 10, 30]

/-- The codes of `K59H-9RMF-64CY-9X6E7` (section 1.1). -/
def literalStr : List CharCode :=
  [0x4B, 0x35, 0x39, 0x48, 0x2D, 0x39, 0x52, 0x4D, 0x46, 0x2D, 0x36, 0x34, 0x43, 0x59, 0x2D, 0x39, 0x58, 0x36, 0x45,
   0x37]

/-! ### One command each (sections 2.1 to 2.5) -/

theorem test_gfadd_20_13 : (after (exec (.gfadd 20 13) State.reset)).res = 25#8 := by decide
theorem test_gfmul_wraps_the_logs :
    (after (exec (.gfmul 18 2) State.reset)).res = 1#8 ∧ (after (exec (.gfmul 30 15) State.reset)).res = 27#8 := by
  decide
theorem test_gfmul_zero : (after (exec (.gfmul 5 0) State.reset)).res = 0#8 := by decide
theorem test_gfexp_31_repeats_entry_0 : (after (exec (.gfexp 31) State.reset)).res = 1#8 := by decide
theorem test_gflog_18 : (after (exec (.gflog 18) State.reset)).res = 30#8 := by decide
theorem test_gflog_zero_faults : (after (exec (.gflog 0) State.reset)).status = 0x0040#16 := by decide
theorem test_symch_skips_I_and_O :
    (after (exec (.symch 16) State.reset)).res = 0x4A#8 ∧ (after (exec (.symch 21) State.reset)).res = 0x50#8 := by
  decide
theorem test_chsym_N : (after (exec (.chsym 0x4E) State.reset)).res = 20#8 := by decide
theorem test_chsym_lower_case : (after (exec (.chsym 0x6B) State.reset)).res = 0xFF#8 := by decide
theorem test_permrd_13 : (after (exec (.permrd 13) State.reset)).res = 8#8 := by decide
theorem test_permrd_17_faults : (after (exec (.permrd 17) State.reset)).status = 0x0040#16 := by decide

theorem test_idtodec_12345 :
    (after (exec .idtodec { State.reset with id := 12345 })).decLen = 5#5 ∧
    (after (exec .idtodec { State.reset with id := 12345 })).dec =
      #v[1, 2, 3, 4, 5, 0, 0, 0, 0, 0, 0, 0, 0, 0, 0, 0, 0, 0, 0, 0] := by decide
theorem test_idtodec_largest :
    (after (exec .idtodec { State.reset with id := 18446744073709551615 })).dec =
      #v[1, 8, 4, 4, 6, 7, 4, 4, 0, 7, 3, 7, 0, 9, 5, 5, 1, 6, 1, 5] := by decide
theorem test_dectoid_twenty_nines :
    (after (exec .dectoid (withDec 20 (List.replicate 20 9)))).id = 7766279631452241919#64 ∧
    (after (exec .dectoid (withDec 20 (List.replicate 20 9)))).status = 0x0008#16 := by decide
theorem test_dectoid_digit_above_nine_faults :
    (after (exec .dectoid (withDec 2 [1, 10]))).status = 0x0040#16 := by decide
theorem test_b10to32_leading_zero :
    (after (exec .b10to32 (withDec 3 [0, 3, 2]))).cw[1] = 1#5 ∧
    (after (exec .b10to32 (withDec 3 [0, 3, 2]))).b32Len = 2#4 := by decide
theorem test_b10to32_fourteenth_digit_faults :
    (after (exec .b10to32 (withDec 20 [3, 6, 8, 9, 3, 4, 8, 8, 1, 4, 7, 4, 1, 9, 1, 0, 3, 2, 3, 2]))).status =
      0x0040#16 := by decide
theorem test_b32to10_32 :
    (after (exec .b32to10 (withCw [0, 1]))).decLen = 2#5 ∧ (after (exec .b32to10 (withCw [0, 1]))).dec[0] = 3#4 ∧
    (after (exec .b32to10 (withCw [0, 1]))).dec[1] = 2#4 := by decide
theorem test_b32to10_two_to_64 :
    (after (exec .b32to10 (withCw [0, 0, 0, 0, 0, 0, 0, 0, 0, 0, 0, 0, 16]))).dec =
      #v[1, 8, 4, 4, 6, 7, 4, 4, 0, 7, 3, 7, 0, 9, 5, 5, 1, 6, 1, 6] := by decide
theorem test_rspar_literal : (after (exec .rspar (withCw (literalCw.take 13)))).p = #v[4, 2, 10, 30] := by decide
theorem test_rspar_top_digit :
    (after (exec .rspar (withCw [0, 0, 0, 0, 0, 0, 0, 0, 0, 0, 0, 0, 1]))).cw[16] = 20#5 := by decide
theorem test_rschk_literal_valid : (after (exec .rschk (withCw literalCw))).status = 0x0004#16 := by decide
theorem test_rschk_altered_syndromes : (after (exec .rschk (withCw alteredCw))).syn = #v[9, 26, 12, 1] := by decide
theorem test_fmt_literal : (after (exec .fmt (withCw literalCw))).str.toList = literalStr := by decide
theorem test_pbegin_clears :
    (after (exec .pbegin (withStatus 0x1102))).status = 0x0000#16 ∧
    (after (exec .pbegin (withCw literalCw))).cw = Vector.replicate 17 0#5 := by decide
theorem test_putc_first : (after (exec (.putc 0x4B) State.reset)).cw[3] = 17#5 ∧
    (after (exec (.putc 0x4B) State.reset)).status = 0x0100#16 := by decide
theorem test_putc_eighteenth : (after (exec (.putc 0x4B) (withStatus 0x1104))).status = 0x1105#16 := by decide
theorem test_pend_altered :
    (after (exec .pend { withCw alteredCw with status := 0x1100 })).status = 0x1102#16 := by decide
theorem test_pend_sixteen : (after (exec .pend (withStatus 0x1000))).status = 0x1002#16 := by decide
theorem test_encode_literal :
    (after (exec .encode { State.reset with id := 8264278205416377583 })).str.toList = literalStr := by decide
theorem test_decode_literal :
    (after (exec .decode { withCw literalCw with status := 0x1100 })).id = 8264278205416377583#64 ∧
    (after (exec .decode { withCw literalCw with status := 0x1100 })).status = 0x1104#16 := by decide
theorem test_decode_beyond_64_bits :
    (after (exec .decode { withCw [0, 0, 0, 0, 0, 0, 0, 0, 0, 0, 0, 0, 16, 25, 19, 25, 7] with
      status := 0x1100 })).status = 0x110C#16 := by decide
theorem test_decoded_sentinel :
    (after (exec .decoded { withCw alteredCw with status := 0x1100, dflt := 12345, id := 77 })).id = 12345#64 ∧
    (after (exec .decoded { withCw alteredCw with status := 0x1100, dflt := 12345, id := 77 })).status = 0x1100#16 := by
  decide
theorem test_clrst_110C : (after (exec .clrst (withStatus 0x110C))).status = 0x1104#16 := by decide
theorem test_nop : (after (step (State.reset.withFetchWord 16 0x0000))).cmd = 0x0000#16 := by decide

/-! ### The host port, faults and reset (sections 2.6, 3.6) -/

theorem test_write_cw_truncates : (after (hostWrite 0x30 0x25 State.reset)).cw[0] = 5#5 := by decide
theorem test_write_decLen_truncates : (after (hostWrite 0x05 37 State.reset)).decLen = 5#5 := by decide
theorem test_write_status_faults : (after (hostWrite 0x01 0 State.reset)).status = 0x0060#16 := by decide
theorem test_write_reserved_faults : (after (hostWrite 0x07 0 State.reset)).status = 0x0060#16 := by decide
theorem test_read_reserved_faults : (hostRead 0x24 State.reset).status = 0x0060#16 := by decide
theorem test_high_bits_of_cmd_ignored : (after (hostWrite 0x00 0xFFFFFFFF000010EB State.reset)).res = 20#8 := by decide
theorem test_illegal_word_stays_in_cmd :
    (after (hostWrite 0x00 0x9001 State.reset)).cmd = 0x9001#16 ∧
    (after (hostWrite 0x00 0x9001 State.reset)).status = 0x0020#16 := by decide
theorem test_fault_keeps_pending_tag : (after (hostWrite 0x00 0xB000 (withStatus 0x1102))).status = 0x1122#16 := by
  decide
theorem test_faulted_ignores_cmd : (after (hostWrite 0x00 0x10EB (withStatus 0x0040))).cmd = 0x0000#16 := by decide
theorem test_fetchWord_runs_gfmul : (after (step (State.reset.withFetchWord 16 0x10EB))).res = 20#8 := by decide

/-! ### Witnesses: the hypotheses of each statement are met -/

/-- LegalWordIsItsCommandsEncoding, WordSelectsCommandByMask. -/
theorem witness_legal_word :
    decode 0x10EB#16 = .ok (.gfmul 7 11) ∧ 0x10EB#16 &&& (opcodeRow (.gfmul 0 0)).mask = (opcodeRow (.gfmul 0 0)).word := by
  decide

/-- IllegalWordFaultsAndOthersAreOneCommand: each way to be illegal, at the first word of each, and a legal word. -/
theorem witness_illegal_word :
    State.reset.fault = 0#2 ∧ illegalWord 0xB000#16 ∧ illegalWord 0x0001#16 ∧ illegalWord 0x1820#16 ∧
    illegalWord 0x0C00#16 ∧ illegalWord 0x8100#16 ∧ ¬ illegalWord 0xA800#16 := by
  refine ⟨?_, ?_, ?_, ?_, ?_, ?_, ?_⟩ <;> decide

/-- LogTablesAreGeneratedByTwo: 1 and 31 among the nonzero elements, 0 and 30 among the exponents. -/
theorem witness_log_ranges :
    (1#5 : Sym) ≠ 0#5 ∧ (31#5 : Sym) ≠ 0#5 ∧ (0#5 : Sym).toNat ≤ 30 ∧ (30#5 : Sym).toNat ≤ 30 := by decide

/-- GfmulByLogTablesIntoRes, FieldLawsOfGmul: a zero operand, and two operands with logarithms. -/
theorem witness_gmul_operands : logOf 31#5 = some 15#5 ∧ logOf 1#5 = some 0#5 ∧ gmul 0 31 = 0#5 := by decide

/-- GflogReadsLogOrFaults: both clauses, at the boundary operands 0 and 1. -/
theorem witness_gflog_clauses : (1#5 : Sym) ≠ 0#5 ∧ State.reset.fault = 0#2 ∧ (0#5 : Sym) = 0#5 := by decide

/-- IdtodecWritesCanonicalDigits: a nonzero identifier. -/
theorem witness_idtodec : ({ State.reset with id := 18446744073709551615 } : State).id ≠ 0#64 := by decide

/-- DectoidValueOverflowOrFault: legal at lengths 1 and 20, illegal at 0 and 21 and by a digit. -/
theorem witness_dectoid_clauses :
    decOperandLegal (withDec 1 [9]) ∧ decOperandLegal (withDec 20 (List.replicate 20 9)) ∧
    ¬ decOperandLegal (withDec 0 []) ∧ ¬ decOperandLegal (withDec 21 []) ∧ ¬ decOperandLegal (withDec 2 [1, 10]) ∧
    (withDec 0 []).fault = 0#2 := by decide

/-- DivisionPassQuotientAndRemainder: both base pairs and a prefix. -/
theorem witness_division_pass :
    (∀ d ∈ [3, 2], d < 10) ∧ (∀ d ∈ [31, 31], d < 32) ∧ [3] ++ [2] <+: [3, 2] := by decide

/-- B10to32DigitsOrFault: the largest accepted value and the smallest refused one. -/
theorem witness_b10to32_clauses :
    decOperandLegal (withDec 20 [3, 6, 8, 9, 3, 4, 8, 8, 1, 4, 7, 4, 1, 9, 1, 0, 3, 2, 3, 1]) ∧
    decSum 20 (withDec 20 [3, 6, 8, 9, 3, 4, 8, 8, 1, 4, 7, 4, 1, 9, 1, 0, 3, 2, 3, 1]).dec < 32 ^ 13 ∧
    ¬ decSum 20 (withDec 20 [3, 6, 8, 9, 3, 4, 8, 8, 1, 4, 7, 4, 1, 9, 1, 0, 3, 2, 3, 2]).dec < 32 ^ 13 := by decide

/-- RschkWritesSyndromesAndVerdict and its like: both verdicts occur. -/
theorem witness_both_verdicts :
    (after (exec .rschk (withCw literalCw))).valid = 1#1 ∧ (after (exec .rschk (withCw alteredCw))).valid = 0#1 := by
  decide

/-- UpToFourChangedSymbolsAreDetected: one and four changed positions of a valid codeword. -/
theorem witness_changed_symbols :
    (∃ s', exec .rschk (withCw literalCw) = .next s' ∧ s'.valid = 1#1) ∧
    symbolDistance (withCw literalCw).cw (withCw alteredCw).cw = 1 ∧
    symbolDistance (withCw literalCw).cw (withCw ([0, 0, 0, 0] ++ literalCw.drop 4)).cw = 4 :=
  ⟨⟨_, rfl, by decide⟩, by decide, by decide⟩

/-- ChsymFindsSymbolOrNone: both clauses, at the first and last letter and the code after it. -/
theorem witness_chsym_clauses :
    alphaTable[(0#5 : Sym).toNat]? = some 0x32#8 ∧ alphaTable[(31#5 : Sym).toNat]? = some 0x5A#8 ∧
    ∀ x : Sym, alphaTable[x.toNat]? ≠ some 0x5B#8 := by decide

/-- PermrdReadsPermOrFaults: 16 and 17. -/
theorem witness_permrd_clauses :
    (16#5 : Sym).toNat ≤ 16 ∧ 16 < (17#5 : Sym).toNat ∧ State.reset.fault = 0#2 := by decide

/-- PutcPlacesSkipsOrSignals: each clause, the counts 0, 16 and 17 among them. -/
theorem witness_putc_clauses :
    (withStatus 0x0002).tag ≠ 0#2 ∧ (withStatus 0x1100).tag = 0#2 ∧ (withStatus 0x1100).cnt = 17#5 ∧
    (withStatus 0x1000).cnt.toNat < 17 ∧ State.reset.cnt.toNat < 17 ∧ State.reset.tag = 0#2 ∧
    alphaTable[(17#5 : Sym).toNat]? = some 0x4B#8 ∧ ∀ x : Sym, alphaTable[x.toNat]? ≠ some 0x2D#8 := by decide

/-- PendChecksCountThenParity, DecodeResultOrTag, EncodeDuringScanPassesTheCheck: each clause, counts 16 and 17, both
verdicts. -/
theorem witness_pend_clauses :
    (withStatus 0x0001).tag ≠ 0#2 ∧ (withStatus 0x1000).tag = 0#2 ∧ (withStatus 0x1000).cnt ≠ 17#5 ∧
    (withStatus 0x1100).cnt = 17#5 ∧
    (∃ u, exec .rschk { withCw literalCw with status := 0x1100 } = .next u ∧ u.valid = 1#1) ∧
    (∃ u, exec .rschk { withCw alteredCw with status := 0x1100 } = .next u ∧ u.valid = 0#1) :=
  ⟨by decide, by decide, by decide, by decide, ⟨_, rfl, by decide⟩, ⟨_, rfl, by decide⟩⟩

/-- ScanPlacesSymbolsByPermutation (0 and 17 symbols), FewerThanSeventeenAreInvalid (16), EighteenCharactersAreTooLong
(18). -/
theorem witness_string_lengths :
    (recognizedSymbols []).length ≤ 17 ∧ (recognizedSymbols literalStr).length = 17 ∧
    (recognizedSymbols (literalStr.take 19)).length = 16 ∧ 18 ≤ (recognizedSymbols (literalStr ++ [0x32])).length := by
  decide

/-- EncodedStringDependsOnIdAlone: two states that differ but for `ID`. -/
theorem witness_same_id : (withCw literalCw).id = (withStatus 0x1102).id := by decide

/-- DecodedSubstitutesTheSentinel: both clauses. -/
theorem witness_decoded_clauses :
    (after (exec .decode { withCw literalCw with status := 0x1100 })).tag = 0#2 ∧
    (after (exec .decode { withCw alteredCw with status := 0x1100 })).tag ≠ 0#2 := by decide

/-- OneChangedCharacterIsInvalid: the last character of the encoding of 0 changed. -/
theorem witness_changed_character :
    (∃ t, exec .encode State.reset = .next t ∧ recognized t.str[19] = true ∧ 0x33#8 ≠ t.str[19]) ∧
    recognized 0x33#8 = true := ⟨⟨_, rfl, by decide, by decide⟩, by decide⟩

/-- FlagsChangeOnlyByTheirCommands, TagChangesOnlyAsListed: each flag, the count and the tag do change somewhere. -/
theorem witness_status_changes :
    (after (exec .rschk State.reset)).valid ≠ State.reset.valid ∧
    (after (exec .clrst (withStatus 0x0008))).ovf ≠ (withStatus 0x0008).ovf ∧
    (after (exec (.putc 0x4B) State.reset)).cnt ≠ State.reset.cnt ∧
    (after (exec .pend State.reset)).tag ≠ State.reset.tag := by decide

/-- ResultRegistersAreNeverRead: two states that agree on what is read and differ in every result register and `CMD`. -/
theorem witness_agreeOnRead :
    agreeOnRead State.reset { State.reset with
      res := 7, p := #v[1, 2, 3, 4], syn := #v[4, 3, 2, 1], str := Vector.replicate 20 0x32, b32Len := 13,
      cmd := 0x0A8D } := by decide

/-- RegisterMapIsOneToOne, ReadReturnsTheRegister, ReservedReadFaultsOnce, WriteStoresOrFaults: first and last index of
each range, reserved or not, read-only or not. -/
theorem witness_index_ranges :
    reservedIndex 0x07#8 ∧ reservedIndex 0x24#8 ∧ reservedIndex 0x2F#8 ∧ reservedIndex 0x41#8 ∧ reservedIndex 0x4F#8 ∧
    reservedIndex 0x64#8 ∧ reservedIndex 0xFF#8 ∧ ¬ reservedIndex 0x00#8 ∧ ¬ reservedIndex 0x23#8 ∧
    ¬ reservedIndex 0x30#8 ∧ ¬ reservedIndex 0x40#8 ∧ ¬ reservedIndex 0x50#8 ∧ ¬ reservedIndex 0x63#8 ∧
    readOnlyIndex 0x01#8 ∧ readOnlyIndex 0x08#8 ∧ readOnlyIndex 0x0F#8 ∧ readOnlyIndex 0x63#8 ∧
    ¬ readOnlyIndex 0x10#8 ∧ regAt 0x40#8 = some (.cw 16) ∧ regAt 0x0C#8 = some (.syn 0) := by
  refine ⟨?_, ?_, ?_, ?_, ?_, ?_, ?_, ?_, ?_, ?_, ?_, ?_, ?_, ?_, ?_, ?_, ?_, ?_, ?_, ?_⟩ <;> decide

/-- ReadReturnsTheRegister, WriteStoresOrFaults: the first and the last index of each register array, and the single
registers. -/
theorem witness_index_clauses :
    (0x08#8).toNat = 0x08 + (0 : Fin 4).val ∧ (0x0B#8).toNat = 0x08 + (3 : Fin 4).val ∧
    (0x0C#8).toNat = 0x0C + (0 : Fin 4).val ∧ (0x0F#8).toNat = 0x0C + (3 : Fin 4).val ∧
    (0x10#8).toNat = 0x10 + (0 : Fin 20).val ∧ (0x23#8).toNat = 0x10 + (19 : Fin 20).val ∧
    (0x30#8).toNat = 0x30 + (0 : Fin 17).val ∧ (0x40#8).toNat = 0x30 + (16 : Fin 17).val ∧
    (0x50#8).toNat = 0x50 + (0 : Fin 20).val ∧ (0x63#8).toNat = 0x50 + (19 : Fin 20).val ∧
    ¬ reservedIndex 0x06#8 ∧ ¬ reservedIndex 0x08#8 ∧ readOnlyIndex 0x02#8 ∧ readOnlyIndex 0x06#8 ∧
    readOnlyIndex 0x50#8 ∧ ¬ readOnlyIndex 0x03#8 ∧ ¬ readOnlyIndex 0x05#8 ∧ State.reset.fault = 0#2 := by
  refine ⟨?_, ?_, ?_, ?_, ?_, ?_, ?_, ?_, ?_, ?_, ?_, ?_, ?_, ?_, ?_, ?_, ?_, ?_⟩ <;> decide

/-- ReadReturnsTheRegister, ReservedReadFaultsOnce: pending reads of a defined and of a reserved index, faulted and
not. -/
theorem witness_pending_reads :
    (issue [.read 0x40] State.reset).pending = [.read 0x40] ∧ (issue [.read 0x24] State.reset).pending = [.read 0x24] ∧
    (issue [.read 0x24] State.reset).fault = 0#2 ∧ (issue [.read 0xFF] (withStatus 0x0040)).fault ≠ 0#2 := by decide

/-- ReadBackAfterWrite: a writable register other than `CMD`. -/
theorem witness_read_back : regWritable (.cw 16) = true ∧ Reg.cw 16 ≠ .cmd ∧ State.reset.fault = 0#2 := by decide

/-- StepRunsTheDecodedCommand: the hypotheses and the first clause's. -/
theorem witness_step_runs :
    (State.reset.withFetchWord 16 0x10EB).pending = [.write 0x00 0x10EB] ∧
    (State.reset.withFetchWord 16 0x10EB).fault = 0#2 ∧ decode ((0x10EB#64).setWidth 16) = .ok (.gfmul 7 11) := by
  decide

/-- Two instances, each with an event pending: a command in the first, the given event in the second. -/
def twoInstances (e : HostEvent) : Platform := [issue [.write 0x00 0x10EB] State.reset, issue [e] (withStatus 0x1102)]

/-- InstancesDoNotInteract: two instances that both perform an event and are changed by it, `GFMUL 7, 11` in the first
and `CLRST`, a reset or a read of a reserved index in the second. -/
theorem witness_two_instances :
    (0 : Nat) ≠ 1 ∧
    (∀ e, ∃ q, platformStep 0 (twoInstances e) = .next q ∧ (q[0]?.map State.res) = some 20#8) ∧
    (∃ r, platformStep 1 (twoInstances (.write 0x00 0xA800)) = .next r ∧ (r[1]?.map State.status) = some 0x1100#16) ∧
    (∃ r, platformStep 1 (twoInstances .reset) = .next r ∧ (r[1]?.map State.status) = some 0x0000#16) ∧
    ∃ r, platformStep 1 (twoInstances (.read 0x24)) = .next r ∧ (r[1]?.map State.status) = some 0x1162#16 :=
  ⟨by decide, fun _ => ⟨_, rfl, rfl⟩, ⟨_, rfl, by decide⟩, ⟨_, rfl, by decide⟩, ⟨_, rfl, by decide⟩⟩

/-- OperandFaultIsPreciseAndOnlyFromFour: each of the four faults somewhere. -/
theorem witness_operand_faults :
    State.reset.fault = 0#2 ∧ (after (exec (.gflog 0) State.reset)).fault ≠ 0#2 ∧
    (after (exec (.permrd 17) State.reset)).fault ≠ 0#2 ∧ (after (exec .dectoid State.reset)).fault ≠ 0#2 ∧
    (after (exec .b10to32 State.reset)).fault ≠ 0#2 := by decide

/-- FaultedStateIgnoresWrites, OnlyResetLeavesTheFaultedState: a faulted state with a write pending. -/
theorem witness_faulted_write :
    (issue [.write 0x00 0xA800] (withStatus 0x0040)).pending = [.write 0x00 0xA800] ∧
    (issue [.write 0x00 0xA800] (withStatus 0x0040)).fault ≠ 0#2 ∧
    (issue [.write 0x00 0xA800] (withStatus 0x0040)).pending.head? ≠ some .reset ∧
    ∃ t, step (issue [.write 0x00 0xA800] (withStatus 0x0040)) = .next t :=
  ⟨by decide, by decide, by decide, ⟨_, rfl⟩⟩

/-- ResetClearsCmdAndStatus: a reset pending in a faulted state. -/
theorem witness_pending_reset : (issue [.reset] (withStatus 0x0040)).pending = [.reset] := by decide

/-- StepKeepsStatusLegal: a legal status at the largest count, and a step that sets a tag there. -/
theorem witness_status_legal :
    statusLegal (withStatus 0x1104) ∧ ∃ t, step ((withStatus 0x1104).withFetchWord 16 0x804B) = .next t :=
  ⟨by decide, ⟨_, rfl⟩⟩

end Sys2Proof.Tests
end

section
/-! PROOFS. `spec/30_encoding.md` R90 to R96: the decoder and the encoder against R94's own list of illegal words.
Every zero field of R91 lies directly under `op`, so the legal words of one `op` are an initial segment of its 2048
words; the number of legal words is counted from that. -/

namespace Sys2Proof.Machine

open BitVec (extractLsb'_append_extractLsb'_eq_extractLsb' extractLsb'_append_eq_of_le extractLsb'_append_eq_left
  extractLsb'_append_eq_right)

/-! ### The fields of a command word (R91) -/

theorem opField_toNat (w : CmdWord) : (opField w).toNat = w.toNat / 2048 := by
  have hw := w.isLt
  simp only [opField, BitVec.extractLsb'_toNat, Nat.shiftRight_eq_div_pow]
  omega

/-- `op` as R94 is stated with it is the decoder's `op`. -/
theorem toNat_shiftRight_eq_opField (w : CmdWord) : (w >>> 11).toNat = (opField w).toNat := by
  rw [opField_toNat, BitVec.toNat_ushiftRight, Nat.shiftRight_eq_div_pow]

/-- A field is zero when the word has no bit under the field's mask. -/
theorem and_fieldMask_eq_zero_iff (w : CmdWord) (lo n : Nat) (h : lo + n ≤ 16) :
    w &&& ((BitVec.allOnes n).setWidth 16 <<< lo) = 0#16 ↔ w.extractLsb' lo n = 0#n := by
  constructor
  · intro hz
    apply BitVec.eq_of_getLsbD_eq
    intro i hi
    have hbit := congrArg (BitVec.getLsbD · (lo + i)) hz
    simpa [hi, show lo + i < 16 by omega] using hbit
  · intro hz
    apply BitVec.eq_of_getLsbD_eq
    intro k hk
    by_cases hin : lo ≤ k ∧ k < lo + n
    · have hbit := congrArg (BitVec.getLsbD · (k - lo)) hz
      simp only [BitVec.getLsbD_extractLsb', Nat.add_sub_cancel' hin.1] at hbit
      simp_all [show k - lo < n by omega]
    · have hout : k < lo ∨ n ≤ k - lo := by omega
      rcases hout with hlt | hge
      · simp [hlt]
      · simp [hge]

/-- The bits `lo..10` are zero when the 11 bits below `op` are a number below `2 ^ lo`. -/
theorem zeroField_eq_zero_iff (w : CmdWord) (lo n : Nat) (h : lo + n = 11) :
    w.extractLsb' lo n = 0#n ↔ w.toNat % 2048 < 2 ^ lo := by
  have hpow : 2 ^ lo * 2 ^ n = 2048 := by rw [← pow_add, h]; rfl
  rw [← BitVec.toNat_inj, BitVec.extractLsb'_toNat, BitVec.toNat_zero, Nat.shiftRight_eq_div_pow,
    ← Nat.mod_mul_right_div_self, hpow, Nat.div_eq_zero_iff_lt (Nat.two_pow_pos lo)]

/-- R94's test of a zero field, by the field's mask, as a bound on the 11 bits below `op`. -/
theorem and_zeroMask_eq_zero_iff (w mask : CmdWord) (lo n : Nat) (h : lo + n = 11)
    (hmask : (BitVec.allOnes n).setWidth 16 <<< lo = mask) : w &&& mask = 0#16 ↔ w.toNat % 2048 < 2 ^ lo := by
  rw [← hmask, and_fieldMask_eq_zero_iff w lo n (by omega), zeroField_eq_zero_iff w lo n h]

/-! ### The four formats (R91): encoding the decoded fields gives the word back, and the other way round -/

section formats

variable {w : CmdWord} (op : BitVec 5) (a b : Sym) (c : CharCode)

theorem encodeN_fields (h : w.extractLsb' 0 11 = 0#11) : encodeN (opField w) = w := by
  rw [encodeN, opField, ← h, extractLsb'_append_extractLsb'_eq_extractLsb' (start₁ := 0) (start₂ := 11) rfl,
    BitVec.extractLsb'_eq_self]

theorem encodeA_fields (h : w.extractLsb' 5 6 = 0#6) : encodeA (opField w) (w.extractLsb' 0 5) = w := by
  rw [encodeA, opField, ← h, extractLsb'_append_extractLsb'_eq_extractLsb' (start₁ := 5) (start₂ := 11) rfl,
    extractLsb'_append_extractLsb'_eq_extractLsb' (start₁ := 0) (start₂ := 5) rfl, BitVec.extractLsb'_eq_self]

theorem encodeAB_fields (h : w.extractLsb' 10 1 = 0#1) :
    encodeAB (opField w) (w.extractLsb' 5 5) (w.extractLsb' 0 5) = w := by
  rw [encodeAB, opField, ← h, extractLsb'_append_extractLsb'_eq_extractLsb' (start₁ := 10) (start₂ := 11) rfl,
    extractLsb'_append_extractLsb'_eq_extractLsb' (start₁ := 5) (start₂ := 10) rfl,
    extractLsb'_append_extractLsb'_eq_extractLsb' (start₁ := 0) (start₂ := 5) rfl, BitVec.extractLsb'_eq_self]

theorem encodeC_fields (h : w.extractLsb' 8 3 = 0#3) : encodeC (opField w) (w.extractLsb' 0 8) = w := by
  rw [encodeC, opField, ← h, extractLsb'_append_extractLsb'_eq_extractLsb' (start₁ := 8) (start₂ := 11) rfl,
    extractLsb'_append_extractLsb'_eq_extractLsb' (start₁ := 0) (start₂ := 8) rfl, BitVec.extractLsb'_eq_self]

@[simp] theorem opField_encodeN : opField (encodeN op) = op := extractLsb'_append_eq_left

@[simp] theorem opField_encodeA : opField (encodeA op a) = op :=
  (extractLsb'_append_eq_of_le (xhi := op ++ 0#6) (xlo := a) (by decide)).trans extractLsb'_append_eq_left

@[simp] theorem opField_encodeC : opField (encodeC op c) = op :=
  (extractLsb'_append_eq_of_le (xhi := op ++ 0#3) (xlo := c) (by decide)).trans extractLsb'_append_eq_left

@[simp] theorem opField_encodeAB : opField (encodeAB op a b) = op :=
  (extractLsb'_append_eq_of_le (xhi := op ++ 0#1 ++ a) (xlo := b) (by decide)).trans <|
    (extractLsb'_append_eq_of_le (xhi := op ++ 0#1) (xlo := a) (by decide)).trans extractLsb'_append_eq_left

@[simp] theorem decodeN_encodeN (i : Instr) : decodeN (encodeN op) i = .ok i :=
  if_pos extractLsb'_append_eq_right

@[simp] theorem decodeA_encodeA (k : Sym → Instr) : decodeA (encodeA op a) k = .ok (k a) := by
  have hzero : (encodeA op a).extractLsb' 5 6 = 0#6 :=
    (extractLsb'_append_eq_of_le (xhi := op ++ 0#6) (xlo := a) (by decide)).trans extractLsb'_append_eq_right
  have ha : (encodeA op a).extractLsb' 0 5 = a := extractLsb'_append_eq_right
  rw [decodeA, if_pos hzero, ha]

@[simp] theorem decodeC_encodeC (k : CharCode → Instr) : decodeC (encodeC op c) k = .ok (k c) := by
  have hzero : (encodeC op c).extractLsb' 8 3 = 0#3 :=
    (extractLsb'_append_eq_of_le (xhi := op ++ 0#3) (xlo := c) (by decide)).trans extractLsb'_append_eq_right
  have hc : (encodeC op c).extractLsb' 0 8 = c := extractLsb'_append_eq_right
  rw [decodeC, if_pos hzero, hc]

@[simp] theorem decodeAB_encodeAB (k : Sym → Sym → Instr) : decodeAB (encodeAB op a b) k = .ok (k a b) := by
  have hzero : (encodeAB op a b).extractLsb' 10 1 = 0#1 :=
    (extractLsb'_append_eq_of_le (xhi := op ++ 0#1 ++ a) (xlo := b) (by decide)).trans <|
      (extractLsb'_append_eq_of_le (xhi := op ++ 0#1) (xlo := a) (by decide)).trans extractLsb'_append_eq_right
  have ha : (encodeAB op a b).extractLsb' 5 5 = a :=
    (extractLsb'_append_eq_of_le (xhi := op ++ 0#1 ++ a) (xlo := b) (by decide)).trans
      extractLsb'_append_eq_right
  have hb : (encodeAB op a b).extractLsb' 0 5 = b := extractLsb'_append_eq_right
  rw [decodeAB, if_pos hzero, ha, hb]

end formats

/-- R93: every command decodes from its own word. -/
theorem decode_encode (i : Instr) : decode (encode i) = .ok i := by
  cases i <;> simp [encode, decode]

theorem encode_injective : Function.Injective encode := fun i j h =>
  Except.ok.inj ((decode_encode i).symm.trans ((congrArg decode h).trans (decode_encode j)))

/-! ### R94's illegal words by number -/

/-- How many words of an `op` are legal (R93): one for each value of the format's operand bits, none when `op` is
reserved. -/
def wordsOfOp : Nat → Nat
  | 0x01 | 0x02 => 2 ^ 10
  | 0x03 | 0x04 | 0x05 | 0x07 => 2 ^ 5
  | 0x06 | 0x10 => 2 ^ 8
  | op => if op < 0x16 then 2 ^ 0 else 0

/-- The illegal words of an `op` are those from `wordsOfOp op` on. -/
theorem illegalWord_iff (w : CmdWord) : illegalWord w ↔ wordsOfOp (opField w).toNat ≤ w.toNat % 2048 := by
  have hN := and_zeroMask_eq_zero_iff w 0x07FF#16 0 11 rfl rfl
  have hA := and_zeroMask_eq_zero_iff w 0x07E0#16 5 6 rfl rfl
  have hAB := and_zeroMask_eq_zero_iff w 0x0400#16 10 1 rfl rfl
  have hC := and_zeroMask_eq_zero_iff w 0x0700#16 8 3 rfl rfl
  have hop : (opField w).toNat < 32 := (opField w).isLt
  unfold illegalWord
  simp only [toNat_shiftRight_eq_opField, ne_eq, hN, hA, hAB, hC, not_lt]
  generalize (opField w).toNat = op at hop
  interval_cases op <;> simp [opsN, wordsOfOp]

/-! ### The decoder is right about every word -/

/-- What R94 asks of the decoder's answer for a word: a command only if the word is legal and that command's word, an
error only if the word is illegal. -/
def MeetsR94 (w : CmdWord) : Except DecodeError Instr → Prop
  | .ok i => encode i = w ∧ ¬ illegalWord w
  | .error _ => illegalWord w

/-- A decoder that tests a zero field and then reads off the command `i` meets R94, when the zero field of the word's
`op` is the one it tests. -/
theorem meetsR94_ite {w : CmdWord} {i : Instr} (lo n : Nat) (hsum : lo + n = 11)
    (hwords : wordsOfOp (opField w).toNat = 2 ^ lo) (hi : w.extractLsb' lo n = 0#n → encode i = w) :
    MeetsR94 w (if w.extractLsb' lo n = 0#n then .ok i else .error .mustBeZero) := by
  have hill : illegalWord w ↔ ¬ w.extractLsb' lo n = 0#n := by
    rw [illegalWord_iff, hwords, zeroField_eq_zero_iff w lo n hsum, not_lt]
  split
  · next hz => exact ⟨hi hz, fun h => hill.mp h hz⟩
  · next hz => exact hill.mpr hz

section formatsOfDecode

variable {w : CmdWord} {op : Nat} (hop : (opField w).toNat = op)
include hop

theorem opField_eq_ofNat : opField w = BitVec.ofNat 5 op := by
  rw [← hop, BitVec.ofNat_toNat, BitVec.setWidth_eq]

theorem decodeN_meetsR94 {i : Instr} (hwords : wordsOfOp op = 2 ^ 0)
    (hi : encode i = encodeN (BitVec.ofNat 5 op)) : MeetsR94 w (decodeN w i) :=
  meetsR94_ite 0 11 rfl (hop ▸ hwords) fun hz => by rw [hi, ← opField_eq_ofNat hop, encodeN_fields hz]

theorem decodeA_meetsR94 {k : Sym → Instr} (hwords : wordsOfOp op = 2 ^ 5)
    (hk : ∀ a, encode (k a) = encodeA (BitVec.ofNat 5 op) a) : MeetsR94 w (decodeA w k) :=
  meetsR94_ite 5 6 rfl (hop ▸ hwords) fun hz => by rw [hk, ← opField_eq_ofNat hop, encodeA_fields hz]

theorem decodeAB_meetsR94 {k : Sym → Sym → Instr} (hwords : wordsOfOp op = 2 ^ 10)
    (hk : ∀ a b, encode (k a b) = encodeAB (BitVec.ofNat 5 op) a b) : MeetsR94 w (decodeAB w k) :=
  meetsR94_ite 10 1 rfl (hop ▸ hwords) fun hz => by rw [hk, ← opField_eq_ofNat hop, encodeAB_fields hz]

theorem decodeC_meetsR94 {k : CharCode → Instr} (hwords : wordsOfOp op = 2 ^ 8)
    (hk : ∀ c, encode (k c) = encodeC (BitVec.ofNat 5 op) c) : MeetsR94 w (decodeC w k) :=
  meetsR94_ite 8 3 rfl (hop ▸ hwords) fun hz => by rw [hk, ← opField_eq_ofNat hop, encodeC_fields hz]

end formatsOfDecode

/-- The cases are the rows of R93's opcode map, counted from 1: formats AB, A and C, then the reserved `op`, then the
rows of format N. -/
theorem decode_meetsR94 (w : CmdWord) : MeetsR94 w (decode w) := by
  unfold decode
  split
  case h_2 hop | h_3 hop => exact decodeAB_meetsR94 hop rfl fun _ _ => rfl
  case h_4 hop | h_5 hop | h_6 hop | h_8 hop => exact decodeA_meetsR94 hop rfl fun _ => rfl
  case h_7 hop | h_17 hop => exact decodeC_meetsR94 hop rfl fun _ => rfl
  case h_23 =>
    have hreserved : 0x16 ≤ (opField w).toNat := by
      simp only [imp_false] at *
      omega
    exact .inl (by rwa [toNat_shiftRight_eq_opField])
  all_goals
    next hop => exact decodeN_meetsR94 hop rfl rfl

theorem decode_error_of_illegalWord {w : CmdWord} (h : illegalWord w) : ∃ e, decode w = .error e := by
  have hw := decode_meetsR94 w
  cases hd : decode w with
  | ok i => rw [hd] at hw; exact absurd h hw.2
  | error e => exact ⟨e, rfl⟩

theorem exists_encode_eq_of_legalWord {w : CmdWord} (h : ¬ illegalWord w) : ∃ i, encode i = w := by
  have hw := decode_meetsR94 w
  cases hd : decode w with
  | ok i => rw [hd] at hw; exact ⟨i, hw.1⟩
  | error e => rw [hd] at hw; exact absurd hw h

/-! ### Counting the legal words -/

/-- Counting in blocks of `b`, when what is counted of each block is an initial segment. -/
theorem count_initialSegments (p : ℕ → Prop) [DecidablePred p] (f : ℕ → ℕ) (b k : ℕ) (hf : ∀ q < k, f q ≤ b)
    (hp : ∀ q < k, ∀ r < b, (p (b * q + r) ↔ r < f q)) : Nat.count p (b * k) = ∑ q ∈ Finset.range k, f q := by
  induction k with
  | zero => simp
  | succ k ih =>
    have hblock : Nat.count (fun r => p (b * k + r)) b = f k := by
      rw [Nat.count_eq_card_filter_range, ← Finset.card_range (f k)]
      congr 1
      ext r
      have hfk := hf k (Nat.lt_succ_self k)
      have hpk := hp k (Nat.lt_succ_self k) r
      simp only [Finset.mem_filter, Finset.mem_range]
      exact ⟨fun ⟨hr, hpr⟩ => (hpk hr).mp hpr, fun hr => ⟨hr.trans_le hfk, (hpk (hr.trans_le hfk)).mpr hr⟩⟩
    rw [Nat.mul_succ, Nat.count_add, hblock, Finset.sum_range_succ,
      ih (fun q hq => hf q (Nat.lt_succ_of_lt hq)) fun q hq => hp q (Nat.lt_succ_of_lt hq)]

theorem legal_iff_lt_wordsOfOp (op x : Nat) (hop : op < 32) (hx : x < 2048) :
    ¬ illegalWord (BitVec.ofNat 16 (2048 * op + x)) ↔ x < wordsOfOp op := by
  have hlt : 2048 * op + x < 2 ^ 16 := by omega
  rw [illegalWord_iff, opField_toNat, BitVec.toNat_ofNat, Nat.mod_eq_of_lt hlt,
    show (2048 * op + x) / 2048 = op by omega, show (2048 * op + x) % 2048 = x by omega, not_le]

theorem count_legalWords : Nat.count (fun n => ¬ illegalWord (BitVec.ofNat 16 n)) (2048 * 32) = 2702 := by
  rw [count_initialSegments _ wordsOfOp 2048 32 (by decide) fun op hop x hx => legal_iff_lt_wordsOfOp op x hop hx]
  rfl

/-! ### Writing an illegal word to `CMD` -/

theorem hostWrite_cmd_of_clear (v : HostData) (s : State) (h : s.fault = 0#2) :
    hostWrite 0x00#8 v s = runCommand (v.setWidth 16) s := by
  simp [hostWrite, h, regAt_cmd]

theorem runCommand_of_error {w : CmdWord} {e : DecodeError} (s : State) (h : decode w = .error e) :
    runCommand w s = .next (raiseFault .illegalCommand (s.setCmd w)) := by
  simp [runCommand, h]

theorem hostWrite_illegalWord {w : CmdWord} {s : State} (hw : illegalWord w) (hs : s.fault = 0#2) :
    hostWrite 0x00#8 (w.setWidth 64) s = .next { s with cmd := w, status := setField s.status 5 2 1#2 } := by
  obtain ⟨e, he⟩ := decode_error_of_illegalWord hw
  have hback : (w.setWidth 64).setWidth 16 = w := by simp
  rw [hostWrite_cmd_of_clear _ s hs, hback, runCommand_of_error s he, raiseFault_of_clear _ (s.setCmd w) hs]
  rfl

/-- Settles O5: the decoder meets R94 on every word, which gives the fault and, with `encode_injective`, the one
command; the count adds up `wordsOfOp` over the 32 values of `op`. -/
theorem illegalWordFaultsAndOthersAreOneCommand : Obligations.IllegalWordFaultsAndOthersAreOneCommand := by
  refine ⟨fun w s hw hs => hostWrite_illegalWord hw hs, fun w hw => ?_, count_legalWords⟩
  obtain ⟨i, hi⟩ := exists_encode_eq_of_legalWord hw
  exact ⟨i, hi, fun j hj => encode_injective (hj.trans hi.symm)⟩

end Sys2Proof.Machine
end

section
/-! PROOFS. `spec/40_gf32.md` R115 and R117 to R120: the four field commands. R117 to R120 print a command's word as an
`or` of its shifted fields, so formats A and AB are first put in that form. -/

namespace Sys2Proof.Machine

/-! ### The words of formats A and AB as R117 to R120 print them -/

theorem encodeA_eq_or (op : BitVec 5) (a : Sym) : encodeA op a = op.setWidth 16 <<< 11 ||| a.setWidth 16 := by
  rw [encodeA, ← BitVec.setWidth_eq (op ++ 0#6 ++ a)]
  simp only [BitVec.setWidth_append_eq_shiftLeft_setWidth_or, BitVec.setWidth_zero, BitVec.or_zero,
    ← BitVec.shiftLeft_add]

theorem encodeAB_eq_or (op : BitVec 5) (a b : Sym) :
    encodeAB op a b = op.setWidth 16 <<< 11 ||| a.setWidth 16 <<< 5 ||| b.setWidth 16 := by
  rw [encodeAB, ← BitVec.setWidth_eq (op ++ 0#1 ++ a ++ b)]
  simp only [BitVec.setWidth_append_eq_shiftLeft_setWidth_or, BitVec.setWidth_zero, BitVec.or_zero,
    BitVec.shiftLeft_or_distrib, ← BitVec.shiftLeft_add]

/-- A word that has the fields of a format-A command decodes to that command. -/
theorem decode_formatA_word {i : Instr} {op : BitVec 5} {a : Sym} (hi : encode i = encodeA op a) :
    decode (op.setWidth 16 <<< 11 ||| a.setWidth 16) = .ok i := by
  rw [← encodeA_eq_or, ← hi, decode_encode]

/-- A word that has the fields of a format-AB command decodes to that command. -/
theorem decode_formatAB_word {i : Instr} {op : BitVec 5} {a b : Sym} (hi : encode i = encodeAB op a b) :
    decode (op.setWidth 16 <<< 11 ||| a.setWidth 16 <<< 5 ||| b.setWidth 16) = .ok i := by
  rw [← encodeAB_eq_or, ← hi, decode_encode]

/-! ### The log and antilog tables -/

theorem antilogTable_getElem? (a : Sym) : antilogTable[a.toNat]? = some (antilog a) :=
  Vector.getElem?_eq_getElem a.isLt

theorem antilogTable_mod_getElem? (e : Nat) : antilogTable[e % 31]? = some (antilogMod e) :=
  Vector.getElem?_eq_getElem _

/-- Every nonzero element has a logarithm, its entry in the log table (R42, R114). -/
theorem exists_logOf_of_ne_zero {a : Sym} (h : a ≠ 0#5) :
    ∃ x, logTable[a.toNat - 1]? = some x ∧ logOf a = some x := by
  have hlt : a.toNat - 1 < 31 := by omega
  have hx := Vector.getElem?_eq_getElem (xs := logTable) hlt
  exact ⟨_, hx, (if_neg h).trans hx⟩

theorem gmul_eq_zero_of_operand_zero {a b : Sym} (h : a = 0#5 ∨ b = 0#5) : gmul a b = 0#5 := by
  rcases h with rfl | rfl
  · exact gmul_zero_left b
  · exact gmul_zero_right a

/-! ### What the four commands do (R117 to R120) -/

section exec

variable (a b : Sym) (s : State)

theorem exec_gfadd : exec (.gfadd a b) s = .next (s.setRes ((a ^^^ b).setWidth 8)) := rfl

theorem exec_gfmul : exec (.gfmul a b) s = .next (s.setRes ((gmul a b).setWidth 8)) := rfl

theorem exec_gfexp : exec (.gfexp a) s = .next (s.setRes ((antilog a).setWidth 8)) := rfl

theorem exec_gflog_of_some {a x : Sym} (h : logOf a = some x) :
    exec (.gflog a) s = .next (s.setRes (x.setWidth 8)) := by
  simp [exec, execGflog, h]

theorem exec_gflog_zero : exec (.gflog 0#5) s = .next (raiseFault .illegalOperand s) := by
  simp [exec, execGflog, logOf_zero]

end exec

/-! ### The statements -/

/-- Settles O8: the printed word is format AB's with `op` 1. -/
theorem gfaddXorsIntoRes : Obligations.GfaddXorsIntoRes := fun a b s =>
  ⟨decode_formatAB_word (op := 0x01#5) rfl, exec_gfadd a b s⟩

/-- Settles O9: the printed word is format AB's with `op` 2, and `gmul` reads `ANTILOG` at the reduced sum of the
logarithms. -/
theorem gfmulByLogTablesIntoRes : Obligations.GfmulByLogTablesIntoRes := fun a b s =>
  ⟨decode_formatAB_word (op := 0x02#5) rfl, exec_gfmul a b s, gmul_eq_zero_of_operand_zero, fun x y hx hy => by
    rw [gmul_of_some a b x y hx hy, antilogTable_mod_getElem?]⟩

/-- Settles O10: every operand is an index of the antilog table. -/
theorem gfexpReadsAntilogIntoRes : Obligations.GfexpReadsAntilogIntoRes := fun a s =>
  ⟨decode_formatA_word (op := 0x03#5) rfl, antilog a, antilogTable_getElem? a, exec_gfexp a s⟩

/-- Settles O11: a nonzero operand has an entry in the log table, 0 has none and raises the fault. -/
theorem gflogReadsLogOrFaults : Obligations.GflogReadsLogOrFaults := by
  intro a s
  refine ⟨decode_formatA_word (op := 0x04#5) rfl, fun ha => ?_, fun ha hs => ?_⟩
  · obtain ⟨x, hx, hlog⟩ := exists_logOf_of_ne_zero ha
    exact ⟨x, hx, exec_gflog_of_some s hlog⟩
  · rw [ha, exec_gflog_zero, raiseFault_of_clear _ s hs]
    rfl

end Sys2Proof.Machine
end

section
/-! PROOFS. `spec/41_base_conversion.md` R130 to R135: the four conversions. The digits they emit are named once, as
`lsfDigits`; the passes of R133 and the digit formula of R131 are shown to give exactly these. -/

namespace Sys2Proof.Machine

/-! ### Digit sequences and the values of R130 -/

theorem valMsf_map_range (base n : Nat) (f : Nat → Nat) :
    valMsf base ((List.range n).map f) = ∑ i ∈ Finset.range n, f i * base ^ (n - 1 - i) := by
  induction n with
  | zero => rfl
  | succ n ih =>
    rw [List.range_succ, List.map_append, List.map_singleton, valMsf_append_singleton, ih, Finset.sum_range_succ,
      Finset.sum_mul, Nat.add_sub_cancel, Nat.sub_self, pow_zero, mul_one]
    congr 1
    refine Finset.sum_congr rfl fun i hi => ?_
    have hlt : i < n := Finset.mem_range.mp hi
    rw [mul_assoc, ← pow_succ, show n - 1 - i + 1 = n - i by omega]

theorem decDigits_eq_map_range (s : State) (h : s.decLen.toNat ≤ 20) :
    decDigits s = (List.range s.decLen.toNat).map fun i => (s.dec[i]?.getD 0#4).toNat := by
  apply List.ext_getElem
  · simp [decDigits, h]
  · intro i hi _
    have hlt : i < s.decLen.toNat := by simpa [decDigits, h] using hi
    simp [decDigits, show i < 20 by omega]

theorem decValue_eq_decSum_of_legal {s : State} (h : decOperandLegal s) :
    decValue s = decSum s.decLen.toNat s.dec := by
  obtain ⟨-, hle, -⟩ := h
  rw [decValue, decDigits_eq_map_range s hle, valMsf_map_range, decSum]

theorem dataDigitsMsf_eq_map_range (code : Vector Sym 17) :
    dataDigitsMsf code = (List.range 13).map fun i => (code[12 - i]?.getD 0#5).toNat := by
  apply List.ext_getElem
  · simp [length_dataDigitsMsf]
  · intro i hi _
    have hlt : i < 13 := length_dataDigitsMsf code ▸ hi
    simp [dataDigitsMsf, dataSymbols, show 12 - i < 17 by omega]

theorem cwValue_eq_cwSum (code : Vector Sym 17) : cwValue code = cwSum code := by
  rw [cwValue, dataDigitsMsf_eq_map_range, valMsf_map_range, cwSum, ← Finset.sum_range_reflect]
  refine Finset.sum_congr rfl fun i hi => ?_
  have hlt : i < 13 := Finset.mem_range.mp hi
  rw [Nat.sub_sub_self (show i ≤ 13 - 1 by omega)]

theorem cwSum_lt (code : Vector Sym 17) : cwSum code < 32 ^ 13 := by
  rw [← cwValue_eq_cwSum, cwValue, valMsf_eq_ofDigits, ← length_dataDigitsMsf code, ← List.length_reverse]
  exact Nat.ofDigits_lt_base_pow_length (by decide) fun d hd => dataDigitsMsf_lt code d (List.mem_reverse.mp hd)

/-- The first `n` digits of a value, each with its weight, add up to the value modulo `base ^ n`. -/
theorem sum_digits_eq_mod (base v n : Nat) :
    ∑ i ∈ Finset.range n, v / base ^ i % base * base ^ i = v % base ^ n := by
  induction n with
  | zero => simp [Nat.mod_one]
  | succ n ih => rw [Finset.sum_range_succ, ih, Nat.mod_pow_succ, mul_comm]

/-! ### The canonical digits of a value, least significant first -/

/-- The digits of `v` without leading zeros, least significant first, the single digit 0 for 0 (R130). -/
def lsfDigits (base v : Nat) : List Nat := v % base :: Nat.digits base (v / base)

theorem one_le_length_lsfDigits (base v : Nat) : 1 ≤ (lsfDigits base v).length := Nat.succ_pos _

section lsfDigits

variable {base : Nat} (hbase : 1 < base) (v k : Nat)
include hbase

/-- Past the last digit both sides are 0. -/
theorem getD_lsfDigits : (lsfDigits base v).getD k 0 = v / base ^ k % base := by
  cases k with
  | zero => simp [lsfDigits]
  | succ k => rw [lsfDigits, List.getD_cons_succ, Nat.getD_digits _ _ hbase, Nat.div_div_eq_div_mul, pow_succ']

theorem length_lsfDigits_le_succ_iff : (lsfDigits base v).length ≤ k + 1 ↔ v < base ^ (k + 1) := by
  rw [lsfDigits, List.length_cons, Nat.add_le_add_iff_right, Nat.digits_length_le_iff hbase,
    Nat.div_lt_iff_lt_mul (by omega), pow_succ]

theorem lt_pow_length_lsfDigits : v < base ^ (lsfDigits base v).length :=
  (length_lsfDigits_le_succ_iff hbase v _).mp le_rfl

theorem pow_length_lsfDigits_le (h : (lsfDigits base v).length ≠ 1) :
    base ^ ((lsfDigits base v).length - 1) ≤ v := by
  have hpos := one_le_length_lsfDigits base v
  obtain ⟨k, hk⟩ : ∃ k, (lsfDigits base v).length = k + 2 := Nat.exists_eq_add_of_le' (by omega)
  rw [hk, ← not_lt]
  exact fun hlt => absurd ((length_lsfDigits_le_succ_iff hbase v k).mpr hlt) (by omega)

end lsfDigits

/-! ### The digits of `IDTODEC` (R131) -/

theorem decimalLengthUpTo_eq (fuel v : Nat) (h : v < 10 ^ (fuel + 1)) :
    decimalLengthUpTo fuel v = (lsfDigits 10 v).length := by
  induction fuel generalizing v with
  | zero =>
    have hzero : v / 10 = 0 := by omega
    simp [decimalLengthUpTo, lsfDigits, hzero]
  | succ fuel ih =>
    rw [decimalLengthUpTo]
    split
    · next hlt => simp [lsfDigits, Nat.div_eq_of_lt hlt]
    · next hge =>
      rw [ih (v / 10) (by rw [pow_succ] at h; omega), lsfDigits, lsfDigits, List.length_cons, List.length_cons,
        Nat.digits_def' (by decide) (show 0 < v / 10 by omega), List.length_cons]

theorem decimalDigits_eq (v : Nat) (h : v < 10 ^ 20) : decimalDigits v = (lsfDigits 10 v).reverse := by
  rw [decimalDigits, decimalLength, decimalLengthUpTo_eq 19 v h]
  apply List.ext_getElem
  · simp
  · intro i hi _
    have hlt : i < (lsfDigits 10 v).length := by simpa using hi
    rw [List.getElem_map, List.getElem_range, List.getElem_reverse, ← getD_lsfDigits (by decide),
      List.getD_eq_getElem _ _ (by omega)]

/-! ### The division loop (R133 to R135) -/

/-- The long-division step: the next digit only meets the remainder so far. -/
theorem longDivision_split (bin bout v d : Nat) :
    v * bin + d = bout * (v / bout * bin) + (v % bout * bin + d) := by
  conv_lhs => rw [← Nat.div_add_mod v bout]
  ring

/-- What a pass leaves: the quotient, empty exactly when it is 0, and the remainder. -/
theorem divPass_spec {bin bout : Nat} (hbin : 0 < bin) (hbout : 0 < bout) (wk : List Nat) :
    valMsf bin (divPass bin bout wk).1 = valMsf bin wk / bout ∧ (divPass bin bout wk).2 = valMsf bin wk % bout ∧
      ((divPass bin bout wk).1 = [] ↔ valMsf bin wk / bout = 0) := by
  induction wk using List.reverseRecOn with
  | nil => simp [divPass_nil]
  | append_singleton wk d ih =>
    rw [divPass_append_singleton, valMsf_append_singleton, longDivision_split bin bout, Nat.mul_add_div hbout,
      Nat.mul_add_mod]
    obtain ⟨hquot, hrem, hempty⟩ := ih
    rw [← hquot, ← hrem]
    rw [← hquot] at hempty
    generalize divPass bin bout wk = st at hempty ⊢
    obtain ⟨q, acc⟩ := st
    rcases divDigit_cases bin bout q acc d with ⟨hge, hstep⟩ | ⟨hlt, hq, hstep⟩ | ⟨hlt, rfl, hstep⟩
    · have hpos : 0 < (acc * bin + d) / bout := Nat.div_pos hge hbout
      rw [hstep]
      exact ⟨valMsf_append_singleton .., rfl, by simp [hpos.ne']⟩
    · have hpos : valMsf bin q ≠ 0 := fun hzero => hq (hempty.mpr hzero)
      rw [hstep, Nat.div_eq_of_lt hlt, Nat.mod_eq_of_lt hlt]
      exact ⟨valMsf_append_singleton .., rfl, by simp [hpos, hbin.ne']⟩
    · rw [hstep, Nat.div_eq_of_lt hlt, Nat.mod_eq_of_lt hlt]
      simp

/-- With fuel for all digits the loop emits the canonical digits. -/
theorem convertDigits_eq_lsfDigits {bin bout : Nat} (hbin : 0 < bin) (hbout : 1 < bout) (fuel : Nat) (wk : List Nat)
    (h : valMsf bin wk < bout ^ (fuel + 1)) :
    convertDigits bin bout (fuel + 1) wk = lsfDigits bout (valMsf bin wk) := by
  induction fuel generalizing wk with
  | zero =>
    obtain ⟨-, hrem, hempty⟩ := divPass_spec hbin (Nat.zero_lt_of_lt hbout) wk
    have hzero : valMsf bin wk / bout = 0 := Nat.div_eq_of_lt (by simpa using h)
    rw [convertDigits_succ, if_pos (hempty.mpr hzero), hrem, lsfDigits, hzero, Nat.digits_zero]
  | succ fuel ih =>
    obtain ⟨hquot, hrem, hempty⟩ := divPass_spec hbin (Nat.zero_lt_of_lt hbout) wk
    have hlt : valMsf bin wk / bout < bout ^ (fuel + 1) := by
      rwa [Nat.div_lt_iff_lt_mul (by omega), ← pow_succ]
    rw [convertDigits_succ, hrem, lsfDigits]
    split
    · next hnil => rw [hempty.mp hnil, Nat.digits_zero]
    · next hne =>
      have hpos : 0 < valMsf bin wk / bout := Nat.pos_of_ne_zero fun hzero => hne (hempty.mpr hzero)
      rw [ih _ (hquot ▸ hlt), hquot, lsfDigits, Nat.digits_def' hbout hpos]

/-! ### Decimal results in `DECLEN` and `DEC` (R24) -/

/-- `n` and `d` hold the decimal digits of `v` by the formula of R131, with no leading zero and zero padding. -/
structure HoldsDecimal (v : Nat) (n : BitVec 5) (d : Vector Digit 20) : Prop where
  one_le : 1 ≤ n.toNat
  le_twenty : n.toNat ≤ 20
  lt_pow : v < 10 ^ n.toNat
  pow_le : n.toNat ≠ 1 → 10 ^ (n.toNat - 1) ≤ v
  digit : ∀ i : Fin 20, i.val < n.toNat → d[i].toNat = v / 10 ^ (n.toNat - 1 - i.val) % 10
  padding : ∀ i : Fin 20, n.toNat ≤ i.val → d[i] = 0#4

namespace HoldsDecimal

variable {v : Nat} {n : BitVec 5} {d : Vector Digit 20} (h : HoldsDecimal v n d)
include h

theorem decSum_eq : decSum n.toNat d = v := by
  rw [decSum, ← Finset.sum_range_reflect]
  calc
    _ = ∑ i ∈ Finset.range n.toNat, v / 10 ^ i % 10 * 10 ^ i := by
      refine Finset.sum_congr rfl fun i hi => ?_
      have hlt : i < n.toNat := Finset.mem_range.mp hi
      have hle := h.le_twenty
      have hdigit := h.digit ⟨n.toNat - 1 - i, by omega⟩ (show n.toNat - 1 - i < n.toNat by omega)
      rw [Nat.sub_sub_self (by omega)] at hdigit ⊢
      rw [Vector.getElem?_eq_getElem (by omega), Option.getD_some, ← hdigit]
      rfl
    _ = v := by rw [sum_digits_eq_mod, Nat.mod_eq_of_lt h.lt_pow]

/-- A leading zero is the whole sequence of the value 0. -/
theorem eq_zero_of_leading_zero (hlead : d[0] = 0#4) : v = 0 ∧ n = 1#5 := by
  have hone := h.one_le
  have hlt := h.lt_pow
  have hdigit : v / 10 ^ (n.toNat - 1) % 10 = 0 := (h.digit 0 hone).symm.trans (congrArg BitVec.toNat hlead)
  have hquot : v / 10 ^ (n.toNat - 1) < 10 := by
    rwa [Nat.div_lt_iff_lt_mul (by positivity), ← pow_succ', Nat.sub_add_cancel hone]
  have hsmall : v < 10 ^ (n.toNat - 1) := by
    rwa [← Nat.div_eq_zero_iff_lt (by positivity), ← Nat.mod_eq_of_lt hquot]
  have hn : n.toNat = 1 := by
    by_contra hne
    exact absurd (h.pow_le hne) (by omega)
  rw [hn] at hsmall
  exact ⟨by simpa using hsmall, BitVec.eq_of_toNat_eq hn⟩

theorem canonical : canonicalDecimal v n d :=
  ⟨h.one_le, h.le_twenty, fun i hi => by have := h.digit i hi; omega, h.decSum_eq, h.eq_zero_of_leading_zero,
    h.padding⟩

theorem pow_le_of_ne_zero (hv : v ≠ 0) : 10 ^ (n.toNat - 1) ≤ v := by
  by_cases hn : n.toNat = 1
  · simpa [hn] using Nat.one_le_iff_ne_zero.mpr hv
  · exact h.pow_le hn

end HoldsDecimal

/-- Writing the canonical digits of a value below 10^20 leaves `DECLEN` and `DEC` holding them. -/
theorem holdsDecimal_of_lsfDigits (v : Nat) (hv : v < 10 ^ 20) :
    HoldsDecimal v (BitVec.ofNat 5 (lsfDigits 10 v).reverse.length)
      (Vector.ofFn fun i => BitVec.ofNat 4 ((lsfDigits 10 v).reverse.getD i.val 0)) := by
  have hle : (lsfDigits 10 v).length ≤ 20 := (length_lsfDigits_le_succ_iff (by decide) v 19).mpr hv
  have hlen : (BitVec.ofNat 5 (lsfDigits 10 v).reverse.length).toNat = (lsfDigits 10 v).length := by
    rw [List.length_reverse, BitVec.toNat_ofNat, Nat.mod_eq_of_lt (by omega)]
  constructor <;> rw [hlen]
  case one_le => exact one_le_length_lsfDigits 10 v
  case le_twenty => exact hle
  case lt_pow => exact lt_pow_length_lsfDigits (by decide) v
  case pow_le => exact pow_length_lsfDigits_le (by decide) v
  case digit =>
    intro i hi
    have hdigit := getD_lsfDigits (base := 10) (by decide) v ((lsfDigits 10 v).length - 1 - i.val)
    have hlt : v / 10 ^ ((lsfDigits 10 v).length - 1 - i.val) % 10 < 2 ^ 4 := by omega
    rw [Fin.getElem_fin, Vector.getElem_ofFn, List.getD_reverse _ hi, hdigit, BitVec.toNat_ofNat,
      Nat.mod_eq_of_lt hlt]
  case padding =>
    intro i hi
    rw [Fin.getElem_fin, Vector.getElem_ofFn, List.getD_eq_default _ _ (by simpa using hi)]

theorem writeDecimal_lsfDigits (v : Nat) (hv : v < 10 ^ 20) (s : State) :
    ∃ n d, writeDecimal (lsfDigits 10 v).reverse s = { s with decLen := n, dec := d } ∧ HoldsDecimal v n d :=
  ⟨_, _, writeDecimal_eq _ s, holdsDecimal_of_lsfDigits v hv⟩

/-! ### Decimal operands (R24) -/

theorem decLegal_iff (s : State) : decLegal s = true ↔ decOperandLegal s := by
  simp only [decLegal, Bool.and_eq_true, decide_eq_true_eq, and_assoc]
  refine and_congr_right fun _ => and_congr_right fun hle => ?_
  rw [decDigits_eq_map_range s hle]
  simp only [List.all_map, List.all_eq_true, List.mem_range, Function.comp_apply, decide_eq_true_eq]
  refine ⟨fun h i hi => ?_, fun h i hi => ?_⟩
  · simpa using h i hi
  · have hlt : i < 20 := by omega
    simpa [hlt] using h ⟨i, hlt⟩ hi

theorem ovfFlag_eq (v : Nat) : ovfFlag v = if 2 ^ 64 ≤ v then 1#1 else 0#1 := by
  rw [ovfFlag]
  split
  · next h => rw [decide_eq_true h]; rfl
  · next h => rw [decide_eq_false h]; rfl

/-! ### Base-32 results in `CW` -/

section writeData

variable (v : Nat) (code : Vector Sym 17)

theorem writeData_data (k : Nat) (hk : k < 13) :
    ((writeData (lsfDigits 32 v) code)[k]?.getD 0#5).toNat = v / 32 ^ k % 32 := by
  have hlt : v / 32 ^ k % 32 < 2 ^ 5 := Nat.mod_lt _ (by decide)
  rw [writeData, Vector.getElem?_eq_getElem (by omega), Vector.getElem_ofFn, if_pos hk, Option.getD_some,
    getD_lsfDigits (by decide), BitVec.toNat_ofNat, Nat.mod_eq_of_lt hlt]

theorem writeData_parity (ds : List Nat) (k : Fin 17) (hk : 13 ≤ k.val) : (writeData ds code)[k] = code[k] := by
  simp [writeData, show ¬ k.val < 13 by omega]

theorem cwSum_writeData (hv : v < 32 ^ 13) : cwSum (writeData (lsfDigits 32 v) code) = v := by
  calc
    _ = ∑ k ∈ Finset.range 13, v / 32 ^ k % 32 * 32 ^ k :=
      Finset.sum_congr rfl fun k hk => by rw [writeData_data v code k (Finset.mem_range.mp hk)]
    _ = v := by rw [sum_digits_eq_mod, Nat.mod_eq_of_lt hv]

end writeData

/-! ### What the four commands do -/

section exec

variable (s : State)

theorem setId_setOvf (v : BitVec 64) (b : BitVec 1) :
    (s.setId v).setOvf b = { s with id := v, status := setField s.status 3 1 b } := rfl

theorem setCw_setB32Len (code : Vector Sym 17) (n : BitVec 4) :
    (s.setCw code).setB32Len n = { s with cw := code, b32Len := n } := rfl

theorem exec_idtodec : exec .idtodec s = .next (writeDecimal (lsfDigits 10 s.id.toNat).reverse s) := by
  have hlt := s.id.isLt
  rw [← decimalDigits_eq _ (by omega)]
  rfl

theorem exec_b32to10 : exec .b32to10 s = .next (writeDecimal (lsfDigits 10 (cwSum s.cw)).reverse s) := by
  have hlt := cwSum_lt s.cw
  rw [← cwValue_eq_cwSum] at hlt ⊢
  rw [cwValue, ← convertDigits_eq_lsfDigits (by decide) (by decide) 19 _ (hlt.trans (by decide))]
  rfl

theorem exec_dectoid_of_legal (h : decOperandLegal s) :
    exec .dectoid s = .next { s with
      id := BitVec.ofNat 64 (decSum s.decLen.toNat s.dec),
      status := setField s.status 3 1 (if 2 ^ 64 ≤ decSum s.decLen.toNat s.dec then 1#1 else 0#1) } := by
  rcases decToId_cases s with ⟨-, heq⟩ | ⟨hill, -⟩
  · rw [ovfFlag_eq, decValue_eq_decSum_of_legal h, setId_setOvf] at heq
    exact congrArg Host.Outcome.next heq
  · exact absurd ((decLegal_iff s).mpr h) (Bool.eq_false_iff.mp hill)

theorem exec_dectoid_of_illegal (h : ¬ decOperandLegal s) :
    exec .dectoid s = .next (raiseFault .illegalOperand s) := by
  rcases decToId_cases s with ⟨hlegal, -⟩ | ⟨-, heq⟩
  · exact absurd ((decLegal_iff s).mp hlegal) h
  · exact congrArg Host.Outcome.next heq

/-- The test that `B10TO32` makes before it writes (R134). -/
theorem decLegal_and_lt_iff :
    (decLegal s = true ∧ decValue s < 32 ^ 13) ↔ (decOperandLegal s ∧ decSum s.decLen.toNat s.dec < 32 ^ 13) := by
  rw [decLegal_iff]
  exact and_congr_right fun h => by rw [decValue_eq_decSum_of_legal h]

theorem exec_b10to32_of_legal (h : decOperandLegal s) (hlt : decSum s.decLen.toNat s.dec < 32 ^ 13) :
    exec .b10to32 s = .next { s with
      cw := writeData (lsfDigits 32 (decSum s.decLen.toNat s.dec)) s.cw,
      b32Len := BitVec.ofNat 4 (lsfDigits 32 (decSum s.decLen.toNat s.dec)).length } := by
  rcases b10To32_cases s with ⟨-, hvalue, heq⟩ | ⟨hill, -⟩
  · have hdigits := convertDigits_eq_lsfDigits (by decide) (by decide) 12 (decDigits s) hvalue
    rw [hdigits, ← decValue, decValue_eq_decSum_of_legal h, setCw_setB32Len] at heq
    exact congrArg Host.Outcome.next heq
  · exact absurd ((decLegal_and_lt_iff s).mpr ⟨h, hlt⟩) hill

theorem exec_b10to32_of_illegal (h : ¬ (decOperandLegal s ∧ decSum s.decLen.toNat s.dec < 32 ^ 13)) :
    exec .b10to32 s = .next (raiseFault .illegalOperand s) := by
  rcases b10To32_cases s with ⟨hlegal, hvalue, -⟩ | ⟨-, heq⟩
  · exact absurd ((decLegal_and_lt_iff s).mp ⟨hlegal, hvalue⟩) h
  · exact congrArg Host.Outcome.next heq

/-- A refused operand outside the faulted state: `FAULT = 2` and nothing else (R213). -/
theorem raiseFault_illegalOperand_of_clear (h : s.fault = 0#2) :
    raiseFault .illegalOperand s = { s with status := setField s.status 5 2 2#2 } :=
  raiseFault_of_clear .illegalOperand s h

end exec

/-! ### The statements -/

/-- Settles O12: the formula of R131 gives the canonical digits, and 20 of them hold every 64-bit value. -/
theorem idtodecWritesCanonicalDigits : Obligations.IdtodecWritesCanonicalDigits := by
  refine ⟨decode_encode .idtodec, fun s => ?_⟩
  have hlt : s.id.toNat < 10 ^ 20 := s.id.isLt.trans (by decide)
  obtain ⟨n, d, heq, hdec⟩ := writeDecimal_lsfDigits s.id.toNat hlt s
  exact ⟨n, d, by rw [exec_idtodec, heq], hdec.canonical,
    fun hid => hdec.pow_le_of_ne_zero fun hzero => hid (BitVec.eq_of_toNat_eq hzero), hdec.lt_pow, hdec.digit⟩

/-- Settles O13: the test of the operand is R24's, and its value is R130's. -/
theorem dectoidValueOverflowOrFault : Obligations.DectoidValueOverflowOrFault :=
  ⟨decode_encode .dectoid, fun s h => exec_dectoid_of_legal s h, fun s h hs => by
    rw [exec_dectoid_of_illegal s h, raiseFault_illegalOperand_of_clear s hs]⟩

/-- Settles O15: the loop emits the canonical base-32 digits, at most 13 of them below 32^13. -/
theorem b10to32DigitsOrFault : Obligations.B10to32DigitsOrFault := by
  refine ⟨decode_encode .b10to32, fun s h hlt => ?_, fun s h hs => ?_⟩
  · have hexec := exec_b10to32_of_legal s h hlt
    generalize decSum s.decLen.toNat s.dec = v at hlt hexec ⊢
    have hle : (lsfDigits 32 v).length ≤ 13 := (length_lsfDigits_le_succ_iff (by decide) v 12).mpr hlt
    have hlen : (BitVec.ofNat 4 (lsfDigits 32 v).length).toNat = (lsfDigits 32 v).length := by
      rw [BitVec.toNat_ofNat, Nat.mod_eq_of_lt (by omega)]
    refine ⟨_, _, hexec, cwSum_writeData v s.cw hlt, writeData_parity s.cw _, ?_⟩
    rw [cwSum_writeData v s.cw hlt, hlen]
    exact ⟨one_le_length_lsfDigits 32 v, hle, lt_pow_length_lsfDigits (by decide) v, fun hne =>
      pow_length_lsfDigits_le (by decide) v fun hone => hne (by rw [hone])⟩
  · rw [exec_b10to32_of_illegal s h, raiseFault_illegalOperand_of_clear s hs]

/-- Settles O16: the loop emits the canonical decimal digits, at most 20 of them since 32^13 is below 10^20. -/
theorem b32to10WritesCanonicalDigits : Obligations.B32to10WritesCanonicalDigits := by
  refine ⟨decode_encode .b32to10, fun s => ?_⟩
  have hlt : cwSum s.cw < 10 ^ 20 := (cwSum_lt s.cw).trans (by decide)
  obtain ⟨n, d, heq, hdec⟩ := writeDecimal_lsfDigits (cwSum s.cw) hlt s
  exact ⟨n, d, by rw [exec_b32to10, heq], hdec.canonical⟩

end Sys2Proof.Machine
end

section
/-! PROOFS. `spec/43_alphabet.md` R173 to R180: the alphabet commands. The model searches the alphabet for a character;
the statements compare it with table entries, so `indexOf` is first put in those terms. The layout of the display string
does not depend on the codeword, and is named once as `displaySlots`. -/

namespace Sys2Proof.Machine

/-! ### The words of format C as R175 and R179 print them -/

theorem encodeC_eq_or (op : BitVec 5) (c : CharCode) : encodeC op c = op.setWidth 16 <<< 11 ||| c.setWidth 16 := by
  rw [encodeC, ← BitVec.setWidth_eq (op ++ 0#3 ++ c)]
  simp only [BitVec.setWidth_append_eq_shiftLeft_setWidth_or, BitVec.setWidth_zero, BitVec.or_zero,
    ← BitVec.shiftLeft_add]

/-- A word that has the fields of a format-C command decodes to that command. -/
theorem decode_formatC_word {i : Instr} {op : BitVec 5} {c : CharCode} (hi : encode i = encodeC op c) :
    decode (op.setWidth 16 <<< 11 ||| c.setWidth 16) = .ok i := by
  rw [← encodeC_eq_or, ← hi, decode_encode]

/-! ### The alphabet and the permutation (R43, R44, R173) -/

theorem alphaTable_getElem? (a : Sym) : alphaTable[a.toNat]? = some (alpha a) :=
  Vector.getElem?_eq_getElem a.isLt

theorem permTable_getElem? (d : Fin 17) : permTable[d.val]? = some (perm d) :=
  Vector.getElem?_eq_getElem d.isLt

theorem indexOf_alpha : ∀ a : Sym, indexOf (alpha a) = some a := by decide

/-- `index_of(c)` is the symbol whose table entry is `c`; there is at most one (R173). -/
theorem indexOf_eq_some_iff {c : CharCode} {x : Sym} : indexOf c = some x ↔ alphaTable[x.toNat]? = some c := by
  constructor
  · intro h
    obtain ⟨i, hi, rfl⟩ := Option.map_eq_some_iff.mp h
    obtain ⟨hlt, hc, -⟩ := List.findIdx?_eq_some_iff_getElem.mp hi
    have hlt32 : i < 32 := by simpa using hlt
    have hentry : alphaTable[i] = c := by simpa using hc
    rw [BitVec.toNat_ofNat, Nat.mod_eq_of_lt hlt32, Vector.getElem?_eq_getElem hlt32, hentry]
  · intro h
    have hc : alpha x = c := Option.some.inj ((alphaTable_getElem? x).symm.trans h)
    rw [← hc, indexOf_alpha]

theorem indexOf_eq_none_iff {c : CharCode} : indexOf c = none ↔ ∀ x : Sym, alphaTable[x.toNat]? ≠ some c := by
  simp only [Option.eq_none_iff_forall_ne_some, ne_eq, indexOf_eq_some_iff]

/-! ### The layout of the display string (R177) -/

/-- The display positions in the order of `STR`, with `none` where a separator stands. -/
def displaySlots : List (Option (Fin 17)) :=
  (List.finRange 17).flatMap fun d => if d.val = 3 ∨ d.val = 7 ∨ d.val = 11 then [some d, none] else [some d]

/-- The character of a slot: the symbol of the display position, or the separator. -/
def slotChar (code : Vector Sym 17) : Option (Fin 17) → CharCode
  | some d => alpha code[perm d]
  | none => sepCode

theorem displayChars_eq_map_displaySlots (code : Vector Sym 17) :
    displayChars code = displaySlots.map (slotChar code) := by
  rw [displayChars, displaySlots, List.map_flatMap]
  congr 1
  funext d
  unfold displayGroup
  split <;> rfl

theorem displaySlots_position :
    ∀ d : Fin 17, d.val + min (d.val / 4) 3 < 20 ∧ displaySlots[d.val + min (d.val / 4) 3]? = some (some d) := by
  decide

theorem displaySlots_separator :
    displaySlots[4]? = some none ∧ displaySlots[9]? = some none ∧ displaySlots[14]? = some none := by decide

/-- What `FMT` writes to `STR`. -/
def displayString (code : Vector Sym 17) : Vector CharCode 20 :=
  Vector.ofFn fun n => (displayChars code).getD n.val sepCode

theorem displayString_getElem {code : Vector Sym 17} {n : Nat} {slot : Option (Fin 17)} (hn : n < 20)
    (h : displaySlots[n]? = some slot) : (displayString code)[n] = slotChar code slot := by
  rw [displayString, Vector.getElem_ofFn, List.getD_eq_getElem?_getD, displayChars_eq_map_displaySlots,
    List.getElem?_map, h]
  rfl

/-! ### What the seven commands do -/

section exec

variable (a : Sym) {x : Sym} {c : CharCode} {s : State}

theorem exec_symch (s : State) : exec (.symch a) s = .next (s.setRes (alpha a)) := rfl

theorem exec_chsym_of_some (s : State) (h : indexOf c = some x) :
    exec (.chsym c) s = .next (s.setRes (x.setWidth 8)) := by
  simp [exec, execChsym, h]

theorem exec_chsym_of_none (s : State) (h : indexOf c = none) : exec (.chsym c) s = .next (s.setRes 0xFF#8) := by
  simp [exec, execChsym, h]

/-- A position is written to `RES` as its own number: 8 bits hold it as well as the 5 it is read in. -/
theorem exec_permrd_of_lt (s : State) (h : a.toNat < 17) :
    exec (.permrd a) s = .next (s.setRes (BitVec.ofNat 8 (perm ⟨a.toNat, h⟩).val)) := by
  have hlt : (perm ⟨a.toNat, h⟩).val < 2 ^ 5 := (perm ⟨a.toNat, h⟩).isLt.trans (by decide)
  simp [exec, execPermrd, h, BitVec.setWidth_ofNat_of_le_of_lt (by decide : 5 ≤ 8) hlt]

theorem exec_permrd_of_ge (s : State) (h : 17 ≤ a.toNat) :
    exec (.permrd a) s = .next (raiseFault .illegalOperand s) := by
  simp [exec, execPermrd, Nat.not_lt.mpr h]

theorem exec_fmt (s : State) : exec .fmt s = .next (s.setStr (displayString s.cw)) := rfl

theorem exec_pbegin (s : State) :
    exec .pbegin s = .next (((s.setCnt 0#5).setTag 0#2).setCw (Vector.replicate 17 0#5)) := rfl

theorem exec_putc (c : CharCode) (s : State) : exec (.putc c) s = .next (putC c s) := rfl

theorem exec_rschk (s : State) : exec .rschk s = .next (syndromeCheck s) := rfl

theorem exec_pend (s : State) : exec .pend s = .next (pEnd s) := rfl

/-! Each clause below is the one case of `putC_cases` or `pEnd_cases` that its hypotheses leave. -/

theorem putC_of_pending (ht : s.tag ≠ 0#2) : putC c s = s := by
  simpa [ht] using putC_cases c s

theorem putC_of_unrecognized (ht : s.tag = 0#2) (hc : indexOf c = none) : putC c s = s := by
  simpa [ht, hc] using putC_cases c s

theorem putC_of_room (ht : s.tag = 0#2) (hc : indexOf c = some x) (h : s.cnt.toNat < 17) :
    putC c s = (s.setCw (s.cw.set (perm ⟨s.cnt.toNat, h⟩) x)).setCnt (s.cnt + 1#5) := by
  simpa [ht, hc, h, Nat.not_le.mpr h] using putC_cases c s

theorem putC_of_full (ht : s.tag = 0#2) (hc : indexOf c = some x) (h : 17 ≤ s.cnt.toNat) :
    putC c s = s.setTag 1#2 := by
  simpa [ht, hc, h, Nat.not_lt.mpr h] using putC_cases c s

theorem pEnd_of_pending (ht : s.tag ≠ 0#2) : pEnd s = s := by
  simpa [ht] using pEnd_cases s

theorem pEnd_of_wrong_count (ht : s.tag = 0#2) (hc : s.cnt ≠ 17#5) : pEnd s = s.setTag 2#2 := by
  simpa [ht, hc] using pEnd_cases s

theorem pEnd_of_valid (ht : s.tag = 0#2) (hc : s.cnt = 17#5) (hv : (syndromeCheck s).valid = 1#1) :
    pEnd s = syndromeCheck s := by
  simpa [ht, hc, hv, -syndromeCheck_valid] using pEnd_cases s

theorem pEnd_of_invalid (ht : s.tag = 0#2) (hc : s.cnt = 17#5) (hv : (syndromeCheck s).valid = 0#1) :
    pEnd s = (syndromeCheck s).setTag 2#2 := by
  simpa [ht, hc, hv, -syndromeCheck_valid] using pEnd_cases s

end exec

/-! ### The statements -/

/-- Settles O25: all 32 symbols are indices of the alphabet. -/
theorem symchReadsAlphabetIntoRes : Obligations.SymchReadsAlphabetIntoRes := fun a s =>
  ⟨decode_formatA_word (op := 0x05#5) rfl, alpha a, alphaTable_getElem? a, exec_symch a s⟩

/-- Settles O26: the search finds a character exactly where the table holds it. -/
theorem chsymFindsSymbolOrNone : Obligations.ChsymFindsSymbolOrNone := fun _ s =>
  ⟨decode_formatC_word (op := 0x06#5) rfl, fun _ hx => exec_chsym_of_some s (indexOf_eq_some_iff.mpr hx),
    fun hnone => exec_chsym_of_none s (indexOf_eq_none_iff.mpr hnone)⟩

/-- Settles O27: the operands 0..16 are the display positions, those above raise the fault. -/
theorem permrdReadsPermOrFaults : Obligations.PermrdReadsPermOrFaults := by
  intro a s
  refine ⟨decode_formatA_word (op := 0x07#5) rfl, fun ha => ?_, fun ha hs => ?_⟩
  · have hlt : a.toNat < 17 := Nat.lt_succ_of_le ha
    exact ⟨perm ⟨a.toNat, hlt⟩, permTable_getElem? ⟨a.toNat, hlt⟩, exec_permrd_of_lt a s hlt⟩
  · rw [exec_permrd_of_ge a s ha, raiseFault_illegalOperand_of_clear s hs]

/-- Settles O28: `STR[n]` holds the character of slot `n`, and the slots are where R177 puts them. -/
theorem fmtWritesTheDisplayString : Obligations.FmtWritesTheDisplayString := by
  obtain ⟨hsep4, hsep9, hsep14⟩ := displaySlots_separator
  refine ⟨decode_encode .fmt, fun s => ⟨displayString s.cw, exec_fmt s, fun d => ?_,
    displayString_getElem (by decide) hsep4, displayString_getElem (by decide) hsep9,
    displayString_getElem (by decide) hsep14⟩⟩
  obtain ⟨hlt, hslot⟩ := displaySlots_position d
  rw [Vector.getElem?_eq_getElem hlt, displayString_getElem hlt hslot, slotChar]

/-- Settles O29: the two fields of `STATUS` are written one after the other, `CNT` first. -/
theorem pbeginClearsTheScan : Obligations.PbeginClearsTheScan :=
  ⟨decode_encode .pbegin, exec_pbegin⟩

/-- Settles O30: each clause is one case of `PUTC`. -/
theorem putcPlacesSkipsOrSignals : Obligations.PutcPlacesSkipsOrSignals := by
  intro c s
  refine ⟨decode_formatC_word (op := 0x10#5) rfl, fun ht => ?_, fun ht hnone => ?_, fun x ht hx hfull => ?_,
    fun x ht hx hroom => ?_⟩
  · rw [exec_putc, putC_of_pending ht]
  · rw [exec_putc, putC_of_unrecognized ht (indexOf_eq_none_iff.mpr hnone)]
  · have hcnt : 17 ≤ s.cnt.toNat := by rw [hfull]; decide
    rw [exec_putc, putC_of_full ht (indexOf_eq_some_iff.mpr hx) hcnt]
    rfl
  · rw [exec_putc, putC_of_room ht (indexOf_eq_some_iff.mpr hx) hroom]
    rfl

/-- Settles O31: the check that `PEND` runs is `RSCHK`'s, and its verdict decides the tag. -/
theorem pendChecksCountThenParity : Obligations.PendChecksCountThenParity := by
  refine ⟨decode_encode .pend, fun s => ⟨fun ht => ?_, fun ht hc => ?_, fun ht hc =>
    ⟨syndromeCheck s, exec_rschk s, fun hv => ?_, fun hv => ?_⟩⟩⟩
  · rw [exec_pend, pEnd_of_pending ht]
  · rw [exec_pend, pEnd_of_wrong_count ht hc]
    rfl
  · rw [exec_pend, pEnd_of_valid ht hc hv]
  · rw [exec_pend, pEnd_of_invalid ht hc hv]
    rfl

end Sys2Proof.Machine
end

section
/-! PROOFS. `spec/44_codec_ops.md` R190 to R193: `ENCODE`, `DECODE`, `DECODED` and `CLRST`. Each composed command hands
one command's decimal result to the next as its operand, so a canonical result is first shown to be a legal operand of
that value. -/

namespace Sys2Proof.Machine

/-! ### A decimal result as the next command's operand (R24, R136) -/

section canonical

variable {v : Nat} {n : BitVec 5} {d : Vector Digit 20} (h : canonicalDecimal v n d) (s : State)
include h

theorem decOperandLegal_of_canonical : decOperandLegal { s with decLen := n, dec := d } := by
  obtain ⟨hone, hle, hdigit, -, -, -⟩ := h
  exact ⟨hone, hle, hdigit⟩

theorem decSum_of_canonical : decSum n.toNat d = v := by
  obtain ⟨-, -, -, hsum, -, -⟩ := h
  exact hsum

end canonical

/-- `IDTODEC; B10TO32` accepts every identifier, since 2^64 is below 32^13. -/
theorem b10To32_idToDec_eq (s : State) : ∃ n d code m,
    b10To32 (idToDec s) = { s with decLen := n, dec := d, cw := code, b32Len := m } := by
  have hid : s.id.toNat < 2 ^ 64 := s.id.isLt
  obtain ⟨n, d, hwrite, hdec⟩ := writeDecimal_lsfDigits s.id.toNat (hid.trans (by decide)) s
  have hidtodec : idToDec s = { s with decLen := n, dec := d } :=
    Host.Outcome.next.inj ((exec_idtodec s).trans (congrArg _ hwrite))
  have hlt : decSum n.toNat d < 32 ^ 13 := by
    rw [decSum_of_canonical hdec.canonical]
    exact hid.trans (by decide)
  have hb10to32 := exec_b10to32_of_legal _ (decOperandLegal_of_canonical hdec.canonical s) hlt
  exact ⟨n, d, _, _, by rw [hidtodec]; exact Host.Outcome.next.inj hb10to32⟩

/-- `B32TO10; DECTOID` reads the data symbols' value into `ID` and `OVF`, by way of its canonical decimal digits; no
fault can arise. -/
theorem decToId_b32To10_eq (s : State) : ∃ n d, canonicalDecimal (cwSum s.cw) n d ∧
    decToId (b32To10 s) = { s with
      decLen := n, dec := d, id := BitVec.ofNat 64 (cwSum s.cw),
      status := setField s.status 3 1 (if 2 ^ 64 ≤ cwSum s.cw then 1#1 else 0#1) } := by
  obtain ⟨n, d, hwrite, hdec⟩ := writeDecimal_lsfDigits (cwSum s.cw) ((cwSum_lt s.cw).trans (by decide)) s
  have hb32to10 : b32To10 s = { s with decLen := n, dec := d } :=
    Host.Outcome.next.inj ((exec_b32to10 s).trans (congrArg _ hwrite))
  have hdectoid := exec_dectoid_of_legal _ (decOperandLegal_of_canonical hdec.canonical s)
  rw [decSum_of_canonical hdec.canonical] at hdectoid
  exact ⟨n, d, hdec.canonical, by rw [hb32to10]; exact Host.Outcome.next.inj hdectoid⟩

/-! ### What the composed commands do -/

section exec

variable (s : State)

theorem exec_encode : exec .encode s = .next (encodeId s) := rfl

theorem exec_decode : exec .decode s = .next (decodeCw s) := rfl

theorem exec_decoded : exec .decoded s = .next (decodeOrDefault s) := rfl

theorem exec_clrst : exec .clrst s = .next ((s.setTag 0#2).setOvf 0#1) := rfl

/-- `ENCODE` writes `DECLEN`, `DEC`, `CW`, `B32LEN`, `P` and `STR` alone. -/
theorem encodeId_eq : ∃ n d code m p str,
    encodeId s = { s with decLen := n, dec := d, cw := code, b32Len := m, p := p, str := str } := by
  obtain ⟨n, d, code, m, heq⟩ := b10To32_idToDec_eq s
  exact ⟨n, d, _, m, _, _, by rw [encodeId, heq, rsPar_eq]; rfl⟩

theorem decodeCw_of_pEnd_tagged {s : State} (h : (pEnd s).tag ≠ 0#2) : decodeCw s = pEnd s := by
  simpa [h] using decodeCw_cases s

theorem decodeCw_of_pEnd_clear {s : State} (h : (pEnd s).tag = 0#2) : decodeCw s = decToId (b32To10 (pEnd s)) := by
  simpa [h] using decodeCw_cases s

/-- Every way for the `PEND` step to end in CodewordInvalid ends `DECODE` there. -/
theorem decodeCw_of_pEnd_invalid {s t : State} (h : pEnd s = t.setTag 2#2) : decodeCw s = t.setTag 2#2 := by
  have htag : (pEnd s).tag ≠ 0#2 := by rw [h, State.setTag_tag]; decide
  rw [decodeCw_of_pEnd_tagged htag, h]

theorem decodeOrDefault_of_success {s : State} (h : (decodeCw s).tag = 0#2) : decodeOrDefault s = decodeCw s := by
  simpa [h] using decodeOrDefault_cases s

theorem decodeOrDefault_of_failure {s : State} (h : (decodeCw s).tag ≠ 0#2) :
    decodeOrDefault s = ((decodeCw s).setId (decodeCw s).dflt).setTag 0#2 := by
  simpa [h] using decodeOrDefault_cases s

/-- `DFLT` is on the host's side of the state, which no command writes (R23). -/
theorem decodeCw_dflt : (decodeCw s).dflt = s.dflt := by
  have hside := hostSide_decodeCw s
  simp only [hostSide, Prod.mk.injEq] at hside
  obtain ⟨-, hdflt, -⟩ := hside
  exact hdflt

end exec

/-! ### The statements -/

/-- Settles O36: the frame rests on `B10TO32` accepting every identifier, so that no fault is written. -/
theorem encodeIsItsFourCommands : Obligations.EncodeIsItsFourCommands := by
  refine ⟨decode_encode .encode, fun s => ⟨encodeId s, exec_encode s, rfl, ?_⟩⟩
  obtain ⟨n, d, code, m, p, str, heq⟩ := encodeId_eq s
  rw [heq]

/-- Settles O38: each clause is one case of the `PEND` step; after a valid one, what `B32TO10` writes is a legal
operand of `DECTOID`. -/
theorem decodeResultOrTag : Obligations.DecodeResultOrTag := by
  refine ⟨decode_encode .decode, fun s => ⟨fun ht => ?_, fun ht hc => ?_, fun ht hc =>
    ⟨syndromeCheck s, exec_rschk s, fun hv => ?_, fun hv => ?_⟩⟩⟩
  · have hpend := pEnd_of_pending ht
    rw [exec_decode, decodeCw_of_pEnd_tagged (hpend.symm ▸ ht), hpend]
  · rw [exec_decode, decodeCw_of_pEnd_invalid (pEnd_of_wrong_count ht hc)]
    rfl
  · rw [exec_decode, decodeCw_of_pEnd_invalid (pEnd_of_invalid ht hc hv)]
    rfl
  · have hpend := pEnd_of_valid ht hc hv
    have htag : (pEnd s).tag = 0#2 := by rw [hpend, syndromeCheck_tag, ht]
    obtain ⟨n, d, hcanonical, heq⟩ := decToId_b32To10_eq (syndromeCheck s)
    exact ⟨n, d, hcanonical, by rw [exec_decode, decodeCw_of_pEnd_clear htag, hpend, heq, syndromeCheck_cw]⟩

/-- Settles O39: the sentinel that `DECODED` reads after `DECODE` is the one from before. -/
theorem decodedSubstitutesTheSentinel : Obligations.DecodedSubstitutesTheSentinel := by
  refine ⟨decode_encode .decoded, fun s => ⟨decodeCw s, exec_decode s, fun ht => ?_, fun ht => ?_⟩⟩
  · rw [exec_decoded, decodeOrDefault_of_success ht]
  · rw [exec_decoded, decodeOrDefault_of_failure ht, ← decodeCw_dflt s]
    rfl

/-- Settles O40: the two fields of `STATUS` are written one after the other, `TAG` first. -/
theorem clrstClearsTagAndOverflow : Obligations.ClrstClearsTagAndOverflow :=
  ⟨decode_encode .clrst, exec_clrst⟩

end Sys2Proof.Machine
end

section
/-! PROOFS. `spec/30_encoding.md` R93 and R94: the decoder against the words and masks that R93 prints. A mask leaves
out the operand bits, which lie lowest in the word, so a word under its mask and its operand bits make up the word. -/

namespace Sys2Proof.Machine

/-! ### From a command to its row -/

/-- Every command's word is, under the mask of its row, the word of its row (R93). -/
theorem encode_and_mask (i : Instr) : encode i &&& (opcodeRow i).mask = (opcodeRow i).word := by
  cases i with
  | nop => exact Laws.EncodingRow.nop
  | gfadd a b => exact Laws.EncodingRow.gfadd a b
  | gfmul a b => exact Laws.EncodingRow.gfmul a b
  | gfexp a => exact Laws.EncodingRow.gfexp a
  | gflog a => exact Laws.EncodingRow.gflog a
  | symch a => exact Laws.EncodingRow.symch a
  | chsym c => exact Laws.EncodingRow.chsym c
  | permrd a => exact Laws.EncodingRow.permrd a
  | idtodec => exact Laws.EncodingRow.idtodec
  | dectoid => exact Laws.EncodingRow.dectoid
  | b10to32 => exact Laws.EncodingRow.b10to32
  | b32to10 => exact Laws.EncodingRow.b32to10
  | rspar => exact Laws.EncodingRow.rspar
  | rschk => exact Laws.EncodingRow.rschk
  | fmt => exact Laws.EncodingRow.fmt
  | pbegin => exact Laws.EncodingRow.pbegin
  | putc c => exact Laws.EncodingRow.putc c
  | pend => exact Laws.EncodingRow.pend
  | encode => exact Laws.EncodingRow.encode
  | decode => exact Laws.EncodingRow.decode
  | decoded => exact Laws.EncodingRow.decoded
  | clrst => exact Laws.EncodingRow.clrst

theorem encode_eq_of_decode {w : CmdWord} {i : Instr} (h : decode w = .ok i) : encode i = w := by
  have hw := decode_meetsR94 w
  rw [h] at hw
  exact hw.1

/-! ### From a row to a command -/

/-- A word is its bits from `n` up together with its low `n` bits. -/
theorem eq_highBits_or_lowBits (w : CmdWord) (n : Nat) :
    w = (w &&& BitVec.allOnes 16 <<< n) ||| (w.extractLsb' 0 n).setWidth 16 := by
  apply BitVec.eq_of_getLsbD_eq
  intro k hk
  by_cases hlow : k < n
  · simp [hk, hlow]
  · simp [hk, hlow, -BitVec.reduceAllOnes]

section rows

variable {w : CmdWord} {op : BitVec 5}

theorem eq_encodeN_of_mask (h : w &&& 0xFFFF#16 = op.setWidth 16 <<< 11) : w = encodeN op := by
  rw [← BitVec.and_allOnes (x := w), encodeN, ← BitVec.setWidth_eq (op ++ 0#11),
    BitVec.setWidth_append_eq_shiftLeft_setWidth_or, BitVec.setWidth_zero, BitVec.or_zero]
  exact h

theorem eq_encodeA_of_mask (h : w &&& 0xFFE0#16 = op.setWidth 16 <<< 11) : w = encodeA op (w.extractLsb' 0 5) := by
  rw [encodeA_eq_or, ← h]
  exact eq_highBits_or_lowBits w 5

theorem eq_encodeC_of_mask (h : w &&& 0xFF00#16 = op.setWidth 16 <<< 11) : w = encodeC op (w.extractLsb' 0 8) := by
  rw [encodeC_eq_or, ← h]
  exact eq_highBits_or_lowBits w 8

/-- The two operands of format AB are the high and the low half of its ten operand bits. -/
theorem eq_encodeAB_of_mask (h : w &&& 0xFC00#16 = op.setWidth 16 <<< 11) :
    w = encodeAB op (w.extractLsb' 5 5) (w.extractLsb' 0 5) := by
  have hoperands : w.extractLsb' 0 10 = w.extractLsb' 5 5 ++ w.extractLsb' 0 5 :=
    (BitVec.extractLsb'_append_extractLsb'_eq_extractLsb' (start₁ := 0) (start₂ := 5)
      (len₁ := 5) (len₂ := 5) (x := w) rfl).symm
  have hsplit := eq_highBits_or_lowBits w 10
  rw [hoperands, BitVec.setWidth_append_eq_shiftLeft_setWidth_or, ← BitVec.or_assoc] at hsplit
  rw [encodeAB_eq_or, ← h]
  exact hsplit

end rows

/-- A word that has a row's word under the row's mask is the word of a command of that row (R93). -/
theorem exists_encode_of_mask (w : CmdWord) (i : Instr) (h : w &&& (opcodeRow i).mask = (opcodeRow i).word) :
    ∃ j, w = encode j ∧ opcodeRow j = opcodeRow i := by
  cases i with
  | gfadd => exact ⟨.gfadd _ _, eq_encodeAB_of_mask (op := 0x01#5) h, rfl⟩
  | gfmul => exact ⟨.gfmul _ _, eq_encodeAB_of_mask (op := 0x02#5) h, rfl⟩
  | gfexp => exact ⟨.gfexp _, eq_encodeA_of_mask (op := 0x03#5) h, rfl⟩
  | gflog => exact ⟨.gflog _, eq_encodeA_of_mask (op := 0x04#5) h, rfl⟩
  | symch => exact ⟨.symch _, eq_encodeA_of_mask (op := 0x05#5) h, rfl⟩
  | chsym => exact ⟨.chsym _, eq_encodeC_of_mask (op := 0x06#5) h, rfl⟩
  | permrd => exact ⟨.permrd _, eq_encodeA_of_mask (op := 0x07#5) h, rfl⟩
  | putc => exact ⟨.putc _, eq_encodeC_of_mask (op := 0x10#5) h, rfl⟩
  | nop => exact ⟨.nop, eq_encodeN_of_mask (op := 0x00#5) h, rfl⟩
  | idtodec => exact ⟨.idtodec, eq_encodeN_of_mask (op := 0x08#5) h, rfl⟩
  | dectoid => exact ⟨.dectoid, eq_encodeN_of_mask (op := 0x09#5) h, rfl⟩
  | b10to32 => exact ⟨.b10to32, eq_encodeN_of_mask (op := 0x0A#5) h, rfl⟩
  | b32to10 => exact ⟨.b32to10, eq_encodeN_of_mask (op := 0x0B#5) h, rfl⟩
  | rspar => exact ⟨.rspar, eq_encodeN_of_mask (op := 0x0C#5) h, rfl⟩
  | rschk => exact ⟨.rschk, eq_encodeN_of_mask (op := 0x0D#5) h, rfl⟩
  | fmt => exact ⟨.fmt, eq_encodeN_of_mask (op := 0x0E#5) h, rfl⟩
  | pbegin => exact ⟨.pbegin, eq_encodeN_of_mask (op := 0x0F#5) h, rfl⟩
  | pend => exact ⟨.pend, eq_encodeN_of_mask (op := 0x11#5) h, rfl⟩
  | encode => exact ⟨.encode, eq_encodeN_of_mask (op := 0x12#5) h, rfl⟩
  | decode => exact ⟨.decode, eq_encodeN_of_mask (op := 0x13#5) h, rfl⟩
  | decoded => exact ⟨.decoded, eq_encodeN_of_mask (op := 0x14#5) h, rfl⟩
  | clrst => exact ⟨.clrst, eq_encodeN_of_mask (op := 0x15#5) h, rfl⟩

/-! ### The statements -/

/-- Settles O2: the decoder reads back `op` and the operand fields that the encoder placed, format by format. -/
theorem decodeOfEncodeIsTheCommand : Obligations.DecodeOfEncodeIsTheCommand := decode_encode

/-- Settles O3: a zero field that the decoder has tested is the one that the encoder writes. -/
theorem legalWordIsItsCommandsEncoding : Obligations.LegalWordIsItsCommandsEncoding := fun _ _ h =>
  encode_eq_of_decode h

/-- Settles O4: both directions go through the word of the command, which has its row's word under the row's mask. -/
theorem wordSelectsCommandByMask : Obligations.WordSelectsCommandByMask := by
  refine ⟨fun w i h => ?_, fun w i h => ?_⟩
  · rw [← encode_eq_of_decode h]
    exact encode_and_mask i
  · obtain ⟨j, rfl, hrow⟩ := exists_encode_of_mask w i h
    exact ⟨j, decode_encode j, hrow⟩

/-- Settles O1: each legal word is the encoding of the command it is printed for; of the two illegal ones, one has a
reserved `op` and the other a nonzero bit below it. -/
theorem printedWordsDecode : Obligations.PrintedWordsDecode :=
  ⟨decode_encode .nop, decode_encode (.gfadd 20 13), decode_encode (.gfmul 7 11), decode_encode (.gfexp 7),
    decode_encode (.gflog 11), decode_encode (.symch 17), decode_encode (.chsym 0x4B), decode_encode (.permrd 8),
    decode_encode .idtodec, decode_encode .rspar, decode_encode (.putc 0x4B), decode_encode .decode, rfl, rfl⟩

end Sys2Proof.Machine
end

section
/-! PROOFS. `spec/10_state.md` section 5 and `spec/60_exceptions.md`: who writes the fields of `STATUS`, and that every
step keeps the word legal. What each command does to `STATUS` is said once, as `StatusEffect`; the statements about one
field each are read off it. -/

namespace Sys2Proof.Machine

/-! ### The fields are functions of the word -/

section congr

variable {s t : State} (h : t.status = s.status)
include h

theorem tag_congr : t.tag = s.tag := congrArg (BitVec.extractLsb' 0 2) h
theorem valid_congr : t.valid = s.valid := congrArg (BitVec.extractLsb' 2 1) h
theorem ovf_congr : t.ovf = s.ovf := congrArg (BitVec.extractLsb' 3 1) h
theorem busy_congr : t.busy = s.busy := congrArg (BitVec.extractLsb' 4 1) h
theorem fault_congr : t.fault = s.fault := congrArg (BitVec.extractLsb' 5 2) h
theorem cnt_congr : t.cnt = s.cnt := congrArg (BitVec.extractLsb' 8 5) h

theorem statusLegal_congr (hs : statusLegal s) : statusLegal t := by
  obtain ⟨htag, hbusy, h7, h13, hcnt⟩ := hs
  exact ⟨tag_congr h ▸ htag, busy_congr h ▸ hbusy, h ▸ h7, h ▸ h13, cnt_congr h ▸ hcnt⟩

end congr

/-! ### What each command does to `STATUS` (R33, "written by") -/

/-- The commands that can refuse an operand (R95, R213). -/
def MayRefuseOperand (i : Instr) : Prop :=
  i = .gflog 0#5 ∨ (∃ a : Sym, 16 < a.toNat ∧ i = .permrd a) ∨ i = .dectoid ∨ i = .b10to32

/-- `u` is `s` as it was, or with a verdict of the check in `VALID`. -/
def MaybeChecked (s u : State) : Prop := u = s ∨ ∃ b, u = s.setValid b

/-- What command `i` does to the `STATUS` of `s` when it ends in `t`. A refused operand changes nothing else either, so
that case speaks of the whole state. -/
inductive StatusEffect (s t : State) : Instr → Prop
  | kept (i : Instr) (h : t.status = s.status) : StatusEffect s t i
  | refused (i : Instr) (hi : MayRefuseOperand i) (h : t = raiseFault .illegalOperand s) : StatusEffect s t i
  | overflow (b : BitVec 1) (h : t.status = (s.setOvf b).status) : StatusEffect s t .dectoid
  | verdict (b : BitVec 1) (h : t.status = (s.setValid b).status) : StatusEffect s t .rschk
  | scanBegun (h : t.status = ((s.setCnt 0#5).setTag 0#2).status) : StatusEffect s t .pbegin
  | counted (c : CharCode) (hroom : s.cnt.toNat < 17) (h : t.status = (s.setCnt (s.cnt + 1#5)).status) :
      StatusEffect s t (.putc c)
  | tooLong (c : CharCode) (htag : s.tag = 0#2) (h : t.status = (s.setTag 1#2).status) : StatusEffect s t (.putc c)
  | checked (b : BitVec 1) (h : t.status = (s.setValid b).status) : StatusEffect s t .pend
  | invalid (i : Instr) (hi : i = .pend ∨ i = .decode) (htag : s.tag = 0#2) (u : State) (hu : MaybeChecked s u)
      (h : t.status = (u.setTag 2#2).status) : StatusEffect s t i
  | converted (i : Instr) (hi : i = .decode ∨ i = .decoded) (b b' : BitVec 1)
      (h : t.status = ((s.setValid b).setOvf b').status) : StatusEffect s t i
  | defaulted (u : State) (hu : MaybeChecked s u) (h : t.status = (u.setTag 0#2).status) : StatusEffect s t .decoded
  | cleared (h : t.status = ((s.setTag 0#2).setOvf 0#1).status) : StatusEffect s t .clrst

theorem setField_setField (w : BitVec 16) (lo n : Nat) (v v' : BitVec n) (h : lo + n ≤ 16) :
    setField (setField w lo n v) lo n v' = setField w lo n v' := by
  apply BitVec.eq_of_getLsbD_eq
  intro k _
  simp only [getLsbD_setField _ _ _ _ _ h]
  split <;> rfl

/-- Everything `DECODE` can do, its `PEND` step and its conversions together (R180, R191). -/
theorem decodeCw_effect_cases (s : State) :
    (s.tag ≠ 0#2 ∧ decodeCw s = s) ∨
    (s.tag = 0#2 ∧ s.cnt ≠ 17#5 ∧ decodeCw s = s.setTag 2#2) ∨
    (s.tag = 0#2 ∧ s.cnt = 17#5 ∧ (syndromeCheck s).valid = 0#1 ∧ decodeCw s = (syndromeCheck s).setTag 2#2) ∨
    (s.tag = 0#2 ∧ s.cnt = 17#5 ∧ (syndromeCheck s).valid = 1#1 ∧
      decodeCw s = decToId (b32To10 (syndromeCheck s))) := by
  rcases pEnd_cases s with ⟨ht, h⟩ | ⟨ht, hc, h⟩ | ⟨ht, hc, hv, h⟩ | ⟨ht, hc, hv, h⟩
  · exact .inl ⟨ht, by rw [decodeCw_of_pEnd_tagged (h.symm ▸ ht), h]⟩
  · exact .inr (.inl ⟨ht, hc, decodeCw_of_pEnd_invalid h⟩)
  · exact .inr (.inr (.inl ⟨ht, hc, hv, decodeCw_of_pEnd_invalid h⟩))
  · have htag : (pEnd s).tag = 0#2 := by rw [h, syndromeCheck_tag, ht]
    exact .inr (.inr (.inr ⟨ht, hc, hv, by rw [decodeCw_of_pEnd_clear htag, h]⟩))

theorem pEnd_statusEffect (s : State) : StatusEffect s (pEnd s) .pend := by
  rcases pEnd_cases s with ⟨-, h⟩ | ⟨ht, -, h⟩ | ⟨ht, -, -, h⟩ | ⟨-, -, -, h⟩ <;> rw [h]
  · exact .kept _ rfl
  · exact .invalid _ (.inl rfl) ht s (.inl rfl) rfl
  · exact .invalid _ (.inl rfl) ht _ (.inr ⟨_, rfl⟩) rfl
  · exact .checked _ rfl

theorem putC_statusEffect (c : CharCode) (s : State) : StatusEffect s (putC c s) (.putc c) := by
  rcases putC_cases c s with ⟨-, h⟩ | ⟨-, -, h⟩ | ⟨x, -, -, hroom, h⟩ | ⟨x, ht, -, -, h⟩ <;> rw [h]
  · exact .kept _ rfl
  · exact .kept _ rfl
  · exact .counted c hroom rfl
  · exact .tooLong c ht rfl

theorem decToId_b32To10_status (s : State) : ∃ b, (decToId (b32To10 s)).status = (s.setOvf b).status := by
  obtain ⟨n, d, -, h⟩ := decToId_b32To10_eq s
  exact ⟨if 2 ^ 64 ≤ cwSum s.cw then 1#1 else 0#1, by rw [h, State.setOvf_status]⟩

theorem decodeCw_statusEffect (s : State) : StatusEffect s (decodeCw s) .decode := by
  rcases decodeCw_effect_cases s with ⟨-, h⟩ | ⟨ht, -, h⟩ | ⟨ht, -, -, h⟩ | ⟨-, -, -, h⟩ <;> rw [h]
  · exact .kept _ rfl
  · exact .invalid _ (.inr rfl) ht s (.inl rfl) rfl
  · exact .invalid _ (.inr rfl) ht _ (.inr ⟨_, rfl⟩) rfl
  · obtain ⟨b, hb⟩ := decToId_b32To10_status (syndromeCheck s)
    exact .converted _ (.inl rfl) _ b hb

/-- `DECODE` succeeds exactly when it ends with `TAG = 0`, and then it was its conversions that ran last. -/
theorem decodeCw_of_tag_clear {s : State} (h : (decodeCw s).tag = 0#2) :
    s.tag = 0#2 ∧ decodeCw s = decToId (b32To10 (syndromeCheck s)) := by
  rcases decodeCw_effect_cases s with ⟨ht, h'⟩ | ⟨ht, -, h'⟩ | ⟨ht, -, -, h'⟩ | ⟨ht, -, -, h'⟩
  · exact absurd (h' ▸ h) ht
  · rw [h', State.setTag_tag] at h
    exact absurd h (by decide)
  · rw [h', State.setTag_tag] at h
    exact absurd h (by decide)
  · exact ⟨ht, h'⟩

/-- A failed `DECODE` leaves a tag, and `DECODED` clears it again. -/
theorem decodeCw_setTag_of_failure {s : State} (h : (decodeCw s).tag ≠ 0#2) :
    ∃ u, MaybeChecked s u ∧ ((decodeCw s).setTag 0#2).status = (u.setTag 0#2).status := by
  rcases decodeCw_effect_cases s with ⟨-, h'⟩ | ⟨-, -, h'⟩ | ⟨-, -, -, h'⟩ | ⟨ht, -, -, h'⟩ <;> rw [h']
  · exact ⟨s, .inl rfl, rfl⟩
  · exact ⟨s, .inl rfl, setField_setField _ _ _ _ _ (by decide)⟩
  · exact ⟨_, .inr ⟨_, rfl⟩, setField_setField _ _ _ _ _ (by decide)⟩
  · obtain ⟨b, hb⟩ := decToId_b32To10_status (syndromeCheck s)
    rw [h', tag_congr hb, State.setOvf_tag, syndromeCheck_tag] at h
    exact absurd ht h

theorem decodeOrDefault_statusEffect (s : State) : StatusEffect s (decodeOrDefault s) .decoded := by
  rcases decodeOrDefault_cases s with ⟨ht, h⟩ | ⟨ht, h⟩ <;> rw [h]
  · obtain ⟨u, hu, hstatus⟩ := decodeCw_setTag_of_failure ht
    exact .defaulted u hu hstatus
  · obtain ⟨-, heq⟩ := decodeCw_of_tag_clear ht
    obtain ⟨b, hb⟩ := decToId_b32To10_status (syndromeCheck s)
    exact .converted _ (.inr rfl) _ b (heq ▸ hb)

theorem writeDecimal_status (ds : List Nat) (s : State) : (writeDecimal ds s).status = s.status := rfl

/-- Every command has an effect on `STATUS` that the table of R33 lists for it, or none. -/
theorem exec_statusEffect {i : Instr} {s t : State} (h : exec i s = .next t) : StatusEffect s t i := by
  cases i with
  | gflog a =>
    by_cases ha : a = 0#5
    · subst ha
      cases exec_gflog_zero s ▸ h
      exact .refused _ (.inl rfl) rfl
    · obtain ⟨x, -, hx⟩ := exists_logOf_of_ne_zero ha
      cases exec_gflog_of_some s hx ▸ h
      exact .kept _ rfl
  | chsym c =>
    cases hc : indexOf c with
    | none =>
      cases exec_chsym_of_none s hc ▸ h
      exact .kept _ rfl
    | some x =>
      cases exec_chsym_of_some s hc ▸ h
      exact .kept _ rfl
  | permrd a =>
    by_cases ha : a.toNat < 17
    · cases exec_permrd_of_lt a s ha ▸ h
      exact .kept _ rfl
    · cases exec_permrd_of_ge a s (Nat.le_of_not_lt ha) ▸ h
      exact .refused _ (.inr (.inl ⟨a, Nat.lt_of_not_le fun hle => ha (Nat.lt_succ_of_le hle), rfl⟩)) rfl
  | dectoid =>
    cases h
    rcases decToId_cases s with ⟨-, e⟩ | ⟨-, e⟩ <;> rw [e]
    · exact .overflow _ rfl
    · exact .refused _ (.inr (.inr (.inl rfl))) rfl
  | b10to32 =>
    cases h
    rcases b10To32_cases s with ⟨-, -, e⟩ | ⟨-, e⟩ <;> rw [e]
    · exact .kept _ (by rw [State.setB32Len_status, State.setCw_status])
    · exact .refused _ (.inr (.inr (.inr rfl))) rfl
  | encode =>
    cases h
    obtain ⟨n, d, code, m, p, str, e⟩ := encodeId_eq s
    exact .kept _ (by rw [e])
  | rschk => cases h; exact .verdict _ rfl
  | pbegin => cases h; exact .scanBegun rfl
  | putc c => cases h; exact putC_statusEffect c s
  | pend => cases h; exact pEnd_statusEffect s
  | decode => cases h; exact decodeCw_statusEffect s
  | decoded => cases h; exact decodeOrDefault_statusEffect s
  | clrst => cases h; exact .cleared rfl
  | idtodec | b32to10 => cases h; exact .kept _ (writeDecimal_status _ s)
  | rspar => cases h; exact .kept _ (by rw [rsPar_eq])
  | fmt => cases h; exact .kept _ (State.setStr_status s _)
  | nop | gfadd | gfmul | gfexp | symch => cases h; exact .kept _ rfl

/-! ### One field at a time -/

section fields

variable {i : Instr} {s t : State} (h : StatusEffect s t i)
include h

theorem StatusEffect.valid :
    t.valid = s.valid ∨ i = .rschk ∨ i = .pend ∨ i = .decode ∨ i = .decoded := by
  cases h with
  | kept _ h | overflow _ h | scanBegun h | counted _ _ h | tooLong _ _ h | cleared h => simp [valid_congr h]
  | refused _ _ h => simp [h]
  | verdict | checked | defaulted => simp
  | invalid _ hi | converted _ hi => rcases hi with rfl | rfl <;> simp

theorem StatusEffect.ovf : t.ovf = s.ovf ∨ i = .dectoid ∨ i = .decode ∨ i = .decoded ∨ i = .clrst := by
  cases h with
  | kept _ h | verdict _ h | scanBegun h | counted _ _ h | tooLong _ _ h | checked _ h => simp [ovf_congr h]
  | refused _ _ h => simp [h]
  | invalid _ _ _ u hu h => rcases hu with rfl | ⟨b, rfl⟩ <;> simp [ovf_congr h]
  | converted _ hi => rcases hi with rfl | rfl <;> simp
  | overflow | defaulted | cleared => simp

theorem StatusEffect.cnt : t.cnt = s.cnt ∨ i = .pbegin ∨ ∃ c, i = .putc c := by
  cases h with
  | kept _ h | verdict _ h | overflow _ h | checked _ h | cleared h | converted _ _ _ _ h => simp [cnt_congr h]
  | refused _ _ h => simp [h]
  | invalid _ _ _ u hu h | defaulted u hu h => rcases hu with rfl | ⟨b, rfl⟩ <;> simp [cnt_congr h]
  | scanBegun | counted | tooLong => simp

theorem StatusEffect.tag :
    t.tag = s.tag ∨ (t.tag = 0#2 ∧ (i = .pbegin ∨ i = .clrst ∨ i = .decoded)) ∨
      (s.tag = 0#2 ∧ t.tag = 1#2 ∧ ∃ c, i = .putc c) ∨ (s.tag = 0#2 ∧ t.tag = 2#2 ∧ (i = .pend ∨ i = .decode)) := by
  cases h with
  | kept _ h | verdict _ h | overflow _ h | counted _ _ h | checked _ h | converted _ _ _ _ h => simp [tag_congr h]
  | refused _ _ h => simp [h]
  | scanBegun h | defaulted _ _ h | cleared h => simp [tag_congr h]
  | tooLong _ ht h => simp [ht, tag_congr h]
  | invalid _ hi ht _ _ h => simp [ht, hi, tag_congr h]

theorem StatusEffect.fault : t.fault = s.fault ∨ (MayRefuseOperand i ∧ t = raiseFault .illegalOperand s) := by
  cases h with
  | kept _ h | verdict _ h | overflow _ h | scanBegun h | counted _ _ h | tooLong _ _ h | checked _ h | cleared h
  | converted _ _ _ _ h => simp [fault_congr h]
  | invalid _ _ _ u hu h | defaulted u hu h => rcases hu with rfl | ⟨b, rfl⟩ <;> simp [fault_congr h]
  | refused _ hi h => exact .inr ⟨hi, h⟩

end fields

/-! ### `STATUS` stays legal (R34, R37, R39, R40) -/

section legal

variable {s : State} (h : statusLegal s)
include h

theorem statusLegal_setTag (t : BitVec 2) (ht : t ≠ 3#2) : statusLegal (s.setTag t) := by
  obtain ⟨-, hbusy, h7, h13, hcnt⟩ := h
  refine ⟨?_, ?_, ?_, ?_, ?_⟩ <;> simpa only [State.setTag_tag, State.setTag_busy, State.setTag_reserved7,
    State.setTag_reserved13, State.setTag_cnt]

theorem statusLegal_setValid (b : BitVec 1) : statusLegal (s.setValid b) := by
  simpa only [statusLegal, State.setValid_tag, State.setValid_busy, State.setValid_reserved7,
    State.setValid_reserved13, State.setValid_cnt] using h

theorem statusLegal_setOvf (b : BitVec 1) : statusLegal (s.setOvf b) := by
  simpa only [statusLegal, State.setOvf_tag, State.setOvf_busy, State.setOvf_reserved7,
    State.setOvf_reserved13, State.setOvf_cnt] using h

theorem statusLegal_setCnt (n : BitVec 5) (hn : n.toNat ≤ 17) : statusLegal (s.setCnt n) := by
  obtain ⟨htag, hbusy, h7, h13, -⟩ := h
  refine ⟨?_, ?_, ?_, ?_, ?_⟩ <;> simpa only [State.setCnt_tag, State.setCnt_busy, State.setCnt_reserved7,
    State.setCnt_reserved13, State.setCnt_cnt]

theorem statusLegal_raiseFault (k : FaultKind) : statusLegal (raiseFault k s) := by
  simpa only [statusLegal, raiseFault_tag, raiseFault_busy, raiseFault_reserved7, raiseFault_reserved13,
    raiseFault_cnt] using h

theorem statusLegal_of_maybeChecked {u : State} (hu : MaybeChecked s u) : statusLegal u := by
  rcases hu with rfl | ⟨b, rfl⟩
  · exact h
  · exact statusLegal_setValid h b

theorem StatusEffect.legal {i : Instr} {t : State} (he : StatusEffect s t i) : statusLegal t := by
  cases he with
  | kept _ e => exact statusLegal_congr e h
  | refused _ _ e => exact e ▸ statusLegal_raiseFault h _
  | overflow b e => exact statusLegal_congr e (statusLegal_setOvf h b)
  | verdict b e | checked b e => exact statusLegal_congr e (statusLegal_setValid h b)
  | scanBegun e => exact statusLegal_congr e (statusLegal_setTag (statusLegal_setCnt h 0#5 (by decide)) _ (by decide))
  | counted _ hroom e => exact statusLegal_congr e (statusLegal_setCnt h _ (by bv_omega))
  | tooLong _ _ e => exact statusLegal_congr e (statusLegal_setTag h _ (by decide))
  | invalid _ _ _ u hu e | defaulted u hu e =>
    exact statusLegal_congr e (statusLegal_setTag (statusLegal_of_maybeChecked h hu) _ (by decide))
  | converted _ _ b b' e => exact statusLegal_congr e (statusLegal_setOvf (statusLegal_setValid h b) b')
  | cleared e => exact statusLegal_congr e (statusLegal_setOvf (statusLegal_setTag h _ (by decide)) _)

theorem statusLegal_runCommand {w : CmdWord} {t : State} (hrun : runCommand w s = .next t) : statusLegal t := by
  have hcmd : statusLegal (s.setCmd w) := h
  rcases runCommand_cases w s t hrun with ⟨i, u, -, hu, rfl⟩ | ⟨e, -, rfl⟩
  · exact (exec_statusEffect hu).legal hcmd
  · exact statusLegal_raiseFault hcmd _

theorem statusLegal_hostRead (idx : RegIndex) : statusLegal (hostRead idx s) := by
  rcases hostRead_cases idx s with ⟨r, -, e⟩ | ⟨-, e⟩ <;> rw [e]
  · exact h
  · refine statusLegal_congr ?_ (statusLegal_raiseFault h .illegalAccess)
    rw [State.countDraw_status, State.giveBack_status]

theorem statusLegal_hostWrite {idx : RegIndex} {v : HostData} {t : State} (hw : hostWrite idx v s = .next t) :
    statusLegal t := by
  rcases hostWrite_cases idx v s t hw with ⟨-, rfl⟩ | ⟨-, -, hrun⟩ | ⟨-, r, -, -, -, rfl⟩ | ⟨hf, rfl, -⟩
  · exact h
  · exact statusLegal_runCommand h hrun
  · exact statusLegal_congr (writeReg_status s r v) h
  · exact raiseFault_of_clear .illegalAccess s hf ▸ statusLegal_raiseFault h .illegalAccess

end legal

theorem statusLegal_of_status_zero {s : State} (h : s.status = 0#16) : statusLegal s := by
  have hzero : statusLegal State.reset := by decide
  exact statusLegal_congr (s := State.reset) h hzero

/-! ### The statements -/

/-- Settles O60: a step is idle, a read, a write or a reset, and each keeps `STATUS` legal; a command does because each
of its effects in `StatusEffect` does. -/
theorem stepKeepsStatusLegal : Obligations.StepKeepsStatusLegal := by
  intro s t hs h
  rcases step_cases s t h with ⟨-, rfl⟩ | ⟨idx, rest, -, rfl⟩ | ⟨idx, v, rest, -, hw⟩ | ⟨rest, -, rfl⟩
  · exact hs
  · exact statusLegal_hostRead (s := { s with pending := rest }) hs idx
  · exact statusLegal_hostWrite (s := { s with pending := rest }) hs hw
  · exact statusLegal_of_status_zero rfl

/-- Settles O59: every field of the word 0 is 0. -/
theorem resetStatusIsLegal : Obligations.ResetStatusIsLegal := statusLegal_of_status_zero rfl

/-- Settles O45: the effects that write a flag belong to the commands listed for it. -/
theorem flagsChangeOnlyByTheirCommands : Obligations.FlagsChangeOnlyByTheirCommands := by
  intro i s t h
  have he := exec_statusEffect h
  exact ⟨he.valid.resolve_left, he.ovf.resolve_left, he.cnt.resolve_left⟩

/-- Settles O46: the effects that write `TAG` belong to the commands listed for it, and the tags are set only from 0. -/
theorem tagChangesOnlyAsListed : Obligations.TagChangesOnlyAsListed := fun _ _ _ h hne =>
  (exec_statusEffect h).tag.resolve_left hne

/-- Settles O55: `refused` is the one effect that writes `FAULT`, and it writes nothing else. -/
theorem operandFaultIsPreciseAndOnlyFromFour : Obligations.OperandFaultIsPreciseAndOnlyFromFour := by
  intro i s t h hs ht
  obtain ⟨hi, heq⟩ := (exec_statusEffect h).fault.resolve_left fun hkept => ht (hkept.trans hs)
  exact ⟨heq.trans (raiseFault_illegalOperand_of_clear s hs), hi⟩

end Sys2Proof.Machine
end

section
/-! PROOFS. `spec/20_memory.md`, with the faulted state and reset of `spec/60_exceptions.md` and
`spec/70_reset_and_hazards.md`: the host port. The register map is shown to be one to one; what a read or a write does
is then said once for each kind of index, and the statements list the indices. -/

namespace Sys2Proof.Machine

/-! ### The register map (R61, R67) -/

theorem regAt_regIndex (r : Reg) : regAt (regIndex r) = some r := by
  cases r with
  | p k => revert k; decide
  | syn i => revert i; decide
  | dec i => revert i; decide
  | cw k => revert k; decide
  | str n => revert n; decide
  | cmd | status | res | id | dflt | decLen | b32Len => rfl

theorem regIndex_of_regAt {idx : RegIndex} {r : Reg} (h : regAt idx = some r) : regIndex r = idx := by
  have hmap : ∀ idx : RegIndex, ∀ r ∈ regAt idx, regIndex r = idx := by decide
  exact hmap idx r h

theorem regAt_eq_none_iff : ∀ idx : RegIndex, regAt idx = none ↔ reservedIndex idx := by decide

theorem regAt_eq_some_of_not_reserved {idx : RegIndex} (h : ¬ reservedIndex idx) : ∃ r, regAt idx = some r :=
  Option.ne_none_iff_exists'.mp fun hnone => h ((regAt_eq_none_iff idx).mp hnone)

/-- The read-only indices are those of the registers that the host may not write. -/
theorem regWritable_eq_false_iff (r : Reg) : regWritable r = false ↔ readOnlyIndex (regIndex r) := by
  cases r with
  | p k => revert k; decide
  | syn i => revert i; decide
  | dec i => revert i; decide
  | cw k => revert k; decide
  | str n => revert n; decide
  | cmd | status | res | id | dflt | decLen | b32Len => decide

theorem eq_ofNat_of_toNat_eq {idx : RegIndex} {n : Nat} (h : idx.toNat = n) : idx = BitVec.ofNat 8 n := by
  rw [← h, BitVec.ofNat_toNat, BitVec.setWidth_eq]

/-! ### Reads (R64) -/

theorem hostRead_of_some {idx : RegIndex} {r : Reg} (s : State) (h : regAt idx = some r) :
    hostRead idx s = s.giveBack (readReg s r) := by
  simp [hostRead, h]

theorem hostRead_of_none {idx : RegIndex} (s : State) (h : regAt idx = none) :
    hostRead idx s = ((raiseFault .illegalAccess s).giveBack (Config.freeRead s.draws)).countDraw := by
  simp [hostRead, h]

theorem step_read {s : State} {idx : RegIndex} {rest : List HostEvent} (h : s.pending = .read idx :: rest) :
    step s = .next (hostRead idx { s with pending := rest }) := step_of_pending s _ rest h

/-- With a fault recorded a read changes no register, whatever its index (R214). -/
theorem readReg_hostRead_of_faulted (idx : RegIndex) {s : State} (hf : s.fault ≠ 0#2) (r : Reg) :
    readReg (hostRead idx s) r = readReg s r := by
  rcases hostRead_cases idx s with ⟨r', -, h⟩ | ⟨-, h⟩ <;> rw [h]
  · exact readReg_giveBack s _ r
  · rw [readReg_countDraw, readReg_giveBack, raiseFault_of_faulted _ s hf]

theorem readReg_pending (s : State) (rest : List HostEvent) (r : Reg) :
    readReg { s with pending := rest } r = readReg s r := by cases r <;> rfl

/-! ### Writes (R65, R66) -/

section writes

variable {s : State} {idx : RegIndex} {r : Reg} {v : HostData}

theorem hostWrite_of_faulted (hf : s.fault ≠ 0#2) : hostWrite idx v s = .next s := if_pos hf

theorem hostWrite_of_writable (hf : s.fault = 0#2) (hr : regAt idx = some r) (hcmd : r ≠ .cmd)
    (hw : regWritable r = true) : hostWrite idx v s = .next (writeReg s r v) := by
  cases r <;> simp_all [hostWrite, regWritable]

theorem hostWrite_of_not_writable (hf : s.fault = 0#2) (hr : regAt idx = some r) (hw : regWritable r = false) :
    hostWrite idx v s = .next (raiseFault .illegalAccess s) := by
  cases r <;> simp_all [hostWrite, regWritable]

theorem hostWrite_of_reserved (hf : s.fault = 0#2) (hr : regAt idx = none) :
    hostWrite idx v s = .next (raiseFault .illegalAccess s) := by
  simp [hostWrite, hf, hr]

/-- A refused access: `FAULT = 3` and nothing else (R65, R67). -/
theorem hostWrite_of_refused (hf : s.fault = 0#2) (h : readOnlyIndex idx ∨ reservedIndex idx) :
    hostWrite idx v s = .next { s with status := setField s.status 5 2 3#2 } := by
  have hfault : raiseFault .illegalAccess s = { s with status := setField s.status 5 2 3#2 } :=
    raiseFault_of_clear _ s hf
  rw [← hfault]
  cases hr : regAt idx with
  | none => exact hostWrite_of_reserved hf hr
  | some r =>
    have hnot : ¬ reservedIndex idx := fun hres => by simp [(regAt_eq_none_iff idx).mpr hres] at hr
    have hidx := regIndex_of_regAt hr
    exact hostWrite_of_not_writable hf hr ((regWritable_eq_false_iff r).mpr (hidx ▸ h.resolve_right hnot))

theorem runCommand_of_ok {w : CmdWord} {i : Instr} {t : State} (h : decode w = .ok i)
    (hexec : exec i (s.setCmd w) = .next t) : runCommand w s = .next t.freshScratch := by
  simp [runCommand, h, hexec, afterCommand]

theorem step_write {rest : List HostEvent} (h : s.pending = .write idx v :: rest) :
    step s = hostWrite idx v { s with pending := rest } := step_of_pending s _ rest h

/-- What was stored is read back, cut to the register's width (R73). -/
theorem readReg_writeReg_same (hw : regWritable r = true) :
    (readReg (writeReg s r v) r).toNat = v.toNat % 2 ^ regWidth r := by
  have hlt := v.isLt
  rcases writeReg_cases s r v hw with ⟨rfl, h⟩ | ⟨rfl, h⟩ | ⟨rfl, h⟩ | ⟨rfl, h⟩ | ⟨i, rfl, h⟩ | ⟨k, rfl, h⟩ <;>
    rw [h] <;> simp [readReg, regWidth] <;> omega

/-- A write touches no other register; of `DEC` and `CW` it touches the one entry (R73). -/
theorem readReg_writeReg_other (hw : regWritable r = true) {r' : Reg} (hne : r' ≠ r) :
    readReg (writeReg s r v) r' = readReg s r' := by
  rcases writeReg_cases s r v hw with ⟨rfl, h⟩ | ⟨rfl, h⟩ | ⟨rfl, h⟩ | ⟨rfl, h⟩ | ⟨i, rfl, h⟩ | ⟨k, rfl, h⟩ <;> rw [h]
  · cases r' with
    | cmd => exact absurd rfl hne
    | _ => rfl
  · cases r' with
    | id => exact absurd rfl hne
    | _ => rfl
  · cases r' with
    | dflt => exact absurd rfl hne
    | _ => rfl
  · cases r' with
    | decLen => exact absurd rfl hne
    | _ => rfl
  · cases r' with
    | dec j =>
      have hij : i.val ≠ j.val := fun e => hne (congrArg Reg.dec (Fin.ext e.symm))
      simp [readReg, hij]
    | _ => rfl
  · cases r' with
    | cw j =>
      have hkj : k.val ≠ j.val := fun e => hne (congrArg Reg.cw (Fin.ext e.symm))
      simp [readReg, hkj]
    | _ => rfl

end writes

/-! ### Platforms (R78) -/

section platform

variable {k : Nat} {p q : Platform}

theorem platformStep_of_none (h : p[k]? = none) : platformStep k p = .next p := by
  simp [platformStep, h]

theorem platformStep_of_some {s t : State} (h : p[k]? = some s) (hst : step s = .next t) :
    platformStep k p = .next (p.set k t) := by
  simp [platformStep, h, hst]

/-- Everything a platform's step can do. -/
theorem platformStep_cases (h : platformStep k p = .next q) :
    (p[k]? = none ∧ q = p) ∨ ∃ s t, p[k]? = some s ∧ step s = .next t ∧ q = p.set k t := by
  cases hk : p[k]? with
  | none =>
    cases platformStep_of_none hk ▸ h
    exact .inl ⟨rfl, rfl⟩
  | some s =>
    cases hst : step s with
    | next t =>
      cases platformStep_of_some hk hst ▸ h
      exact .inr ⟨s, t, rfl, hst, rfl⟩
    | fault f => cases f
    | refused f => simp [platformStep, hk, hst] at h

theorem platformStep_getElem?_other {j : Nat} (hne : j ≠ k) (h : platformStep j p = .next q) : q[k]? = p[k]? := by
  rcases platformStep_cases h with ⟨-, rfl⟩ | ⟨s, t, -, -, rfl⟩
  · rfl
  · exact List.getElem?_set_ne hne

end platform

/-! ### The statements -/

/-- Settles O48: the map is a table of 256 rows. -/
theorem registerMapIsOneToOne : Obligations.RegisterMapIsOneToOne :=
  ⟨regAt_regIndex, fun _ _ => regIndex_of_regAt, regAt_eq_none_iff⟩

/-- Settles O49: the register read is the one at the index, and each printed index is that register's. -/
theorem readReturnsTheRegister : Obligations.ReadReturnsTheRegister := by
  intro s idx rest hp hidx
  obtain ⟨r, hr⟩ := regAt_eq_some_of_not_reserved hidx
  have hval : ∀ r', idx = regIndex r' → readReg s r = readReg s r' := fun r' h => by
    rw [Option.some.inj (hr.symm.trans (h ▸ regAt_regIndex r'))]
  refine ⟨readReg s r, ?_, hval .cmd, hval .status, hval .res, hval .id, hval .dflt, hval .decLen, hval .b32Len,
    fun k h => hval (.p k) (eq_ofNat_of_toNat_eq h),
    fun i h => hval (.syn i) (eq_ofNat_of_toNat_eq (h.trans (by omega))),
    fun i h => hval (.dec i) (eq_ofNat_of_toNat_eq h), fun k h => hval (.cw k) (eq_ofNat_of_toNat_eq h),
    fun n h => hval (.str n) (eq_ofNat_of_toNat_eq h)⟩
  rw [step_read hp, hostRead_of_some _ hr, readReg_pending]
  rfl

/-- Settles O50: the fault is `raise`d, so it is recorded only when none is; the value is the free one. -/
theorem reservedReadFaultsOnce : Obligations.ReservedReadFaultsOnce := by
  intro s idx rest hp hidx
  have hstep := step_read hp
  rw [hostRead_of_none _ ((regAt_eq_none_iff idx).mpr hidx)] at hstep
  refine ⟨Config.freeRead s.draws, fun hf => ?_, fun hf => ?_⟩
  · rw [hstep, raiseFault_of_clear _ { s with pending := rest } hf]
    rfl
  · rw [hstep, raiseFault_of_faulted _ { s with pending := rest } hf]
    rfl

/-- Settles O51: each index is a register that the host may write, or is refused. -/
theorem writeStoresOrFaults : Obligations.WriteStoresOrFaults := by
  intro s idx v hf
  have hstore : ∀ r, idx = regIndex r → r ≠ .cmd → regWritable r = true →
      hostWrite idx v s = .next (writeReg s r v) := fun r h hcmd hw =>
    hostWrite_of_writable hf (h ▸ regAt_regIndex r) hcmd hw
  exact ⟨fun h => hstore .id h nofun rfl, fun h => hstore .dflt h nofun rfl, fun h => hstore .decLen h nofun rfl,
    fun i h => hstore (.dec i) (eq_ofNat_of_toNat_eq h) nofun rfl,
    fun k h => hstore (.cw k) (eq_ofNat_of_toNat_eq h) nofun rfl, hostWrite_of_refused hf⟩

/-- Settles O52: the register written is read back, and it shares no storage with another. -/
theorem readBackAfterWrite : Obligations.ReadBackAfterWrite := fun s r v hf hw hcmd =>
  ⟨writeReg s r v, hostWrite_of_writable hf (regAt_regIndex r) hcmd hw, readReg_writeReg_same hw, fun _ hne =>
    readReg_writeReg_other hw hne⟩

/-- Settles O53: every command answers a next state. -/
theorem stepRunsTheDecodedCommand : Obligations.StepRunsTheDecodedCommand := by
  intro s v rest i hp hf hi
  obtain ⟨t, ht⟩ := exec_answers_next i { s with pending := rest, cmd := v.setWidth 16 }
  refine ⟨t, ht, ?_⟩
  rw [step_write hp, hostWrite_cmd_of_clear v { s with pending := rest } hf]
  exact runCommand_of_ok hi ht

/-- Settles O41: the word 0 is stored and decodes to `NOP`. -/
theorem nopChangesOnlyCmd : Obligations.NopChangesOnlyCmd := by
  refine ⟨decode_encode .nop, fun s => rfl, fun s hf => ?_⟩
  rw [hostWrite_cmd_of_clear 0#64 s hf]
  exact runCommand_of_ok (decode_encode .nop) rfl

/-- Settles O54: a step of one block reads and writes its own place of the list alone. -/
theorem instancesDoNotInteract : Obligations.InstancesDoNotInteract := by
  intro j k p q hne hj
  have hother := platformStep_getElem?_other hne hj
  refine ⟨hother, fun r hk => ?_⟩
  rcases platformStep_cases hk with ⟨hnone, rfl⟩ | ⟨s, t, hs, hst, rfl⟩
  · exact ⟨q, platformStep_of_none (hother.trans hnone), hj⟩
  · refine ⟨q.set k t, platformStep_of_some (hother.trans hs) hst, ?_⟩
    have hkj : (p.set k t)[j]? = p[j]? := List.getElem?_set_ne hne.symm
    rcases platformStep_cases hj with ⟨hnone, rfl⟩ | ⟨s', t', hs', hst', rfl⟩
    · exact platformStep_of_none (hkj.trans hnone)
    · rw [platformStep_of_some (hkj.trans hs') hst', List.set_comm _ _ hne]

/-- Settles O56: the faulted state is the first check of a write (R215). -/
theorem faultedStateIgnoresWrites : Obligations.FaultedStateIgnoresWrites := fun s _ _ rest hp hf => by
  rw [step_write hp, hostWrite_of_faulted (s := { s with pending := rest }) hf]

/-- Settles O57: an idle step and an ignored write change no register, and a read records no second
fault. -/
theorem onlyResetLeavesTheFaultedState : Obligations.OnlyResetLeavesTheFaultedState := by
  intro s t h hf hreset
  have hkept : ∀ r, readReg t r = readReg s r := by
    intro r
    rcases step_cases s t h with ⟨-, rfl⟩ | ⟨idx, rest, -, rfl⟩ | ⟨idx, v, rest, -, hw⟩ | ⟨rest, hp, -⟩
    · rfl
    · rw [readReg_hostRead_of_faulted idx (s := { s with pending := rest }) hf, readReg_pending]
    · cases hostWrite_of_faulted (s := { s with pending := rest }) hf ▸ hw
      exact readReg_pending s rest r
    · exact absurd (by rw [hp]; rfl) hreset
  have hstatus : t.status = s.status := by
    simpa [readReg] using congrArg (BitVec.setWidth 16) (hkept .status)
  exact ⟨fault_congr hstatus, hkept⟩

/-- Settles O58: a reset looks at neither `STATUS` nor the queue. -/
theorem resetClearsCmdAndStatus : Obligations.ResetClearsCmdAndStatus :=
  ⟨⟨rfl, rfl⟩, fun s rest hp =>
    ⟨resetBlock { s with pending := rest }, step_of_pending s .reset rest hp, rfl, rfl, rfl⟩⟩

end Sys2Proof.Machine
end

section
/-! PROOFS. `spec/40_gf32.md` R113, R114, R116 and the tables of `spec/43_alphabet.md`. A nonzero element is a power
of 2, so products of nonzero elements are sums of exponents modulo 31. Multiplication by 2 is a shift and a reduction,
which is linear; distributivity and the polynomial product follow from that. -/

namespace Sys2Proof.Machine

/-! ### Logarithms and antilogarithms (R113, R114) -/

theorem logOf_antilog : ∀ x : Sym, x.toNat ≤ 30 → logOf (antilog x) = some x := by decide

theorem exists_antilog_eq : ∀ a : Sym, a ≠ 0#5 → ∃ x, logOf a = some x ∧ x.toNat ≤ 30 ∧ antilog x = a := by decide

/-- Each entry of the antilog table is the one before times 2, reduced. -/
theorem antilogTable_succ :
    ∀ n : Fin 31, antilogTable[n.val + 1] = reducePoly (antilogTable[n.val].setWidth 9 <<< 1) := by decide

/-! ### Powers of 2 -/

theorem antilogMod_eq_antilog (e : Nat) : antilogMod e = antilog (BitVec.ofNat 5 (e % 31)) := by
  have hlt : e % 31 < 32 := by omega
  simp only [antilogMod, antilog, BitVec.toNat_ofNat, Nat.reducePow, Nat.mod_eq_of_lt hlt]

theorem antilogMod_congr {e e' : Nat} (h : e % 31 = e' % 31) : antilogMod e = antilogMod e' := by
  rw [antilogMod_eq_antilog, antilogMod_eq_antilog, h]

theorem logOf_antilogMod (e : Nat) : logOf (antilogMod e) = some (BitVec.ofNat 5 (e % 31)) := by
  rw [antilogMod_eq_antilog]
  exact logOf_antilog _ (by rw [BitVec.toNat_ofNat]; omega)

theorem antilogMod_ne_zero (e : Nat) : antilogMod e ≠ 0#5 := fun h => by
  have hlog := logOf_antilogMod e
  rw [h, logOf_zero] at hlog
  exact absurd hlog nofun

theorem antilogMod_inj {e e' : Nat} (h : antilogMod e = antilogMod e') : e % 31 = e' % 31 := by
  have hlog := (logOf_antilogMod e).symm.trans (h ▸ logOf_antilogMod e')
  have hnat := congrArg BitVec.toNat (Option.some.inj hlog)
  simp only [BitVec.toNat_ofNat] at hnat
  omega

/-- Every element is 0 or a power of 2. -/
theorem eq_zero_or_antilogMod (a : Sym) : a = 0#5 ∨ ∃ e, a = antilogMod e := by
  refine (eq_or_ne a 0#5).imp_right fun ha => ?_
  obtain ⟨x, -, hx, rfl⟩ := exists_antilog_eq a ha
  exact ⟨x.toNat, by rw [antilogMod_eq_antilog, Nat.mod_eq_of_lt (by omega), BitVec.ofNat_toNat, BitVec.setWidth_eq]⟩

theorem gmul_antilogMod (e e' : Nat) : gmul (antilogMod e) (antilogMod e') = antilogMod (e + e') := by
  rw [gmul_of_some _ _ _ _ (logOf_antilogMod e) (logOf_antilogMod e')]
  apply antilogMod_congr
  simp only [BitVec.toNat_ofNat]
  omega

/-! ### The multiplicative laws (R116) -/

theorem gmul_comm (a b : Sym) : gmul a b = gmul b a := by
  rcases eq_zero_or_antilogMod a with rfl | ⟨x, rfl⟩
  · rw [gmul_zero_left, gmul_zero_right]
  · rcases eq_zero_or_antilogMod b with rfl | ⟨y, rfl⟩
    · rw [gmul_zero_left, gmul_zero_right]
    · rw [gmul_antilogMod, gmul_antilogMod, Nat.add_comm]

theorem gmul_assoc (a b c : Sym) : gmul (gmul a b) c = gmul a (gmul b c) := by
  rcases eq_zero_or_antilogMod a with rfl | ⟨x, rfl⟩
  · simp only [gmul_zero_left]
  · rcases eq_zero_or_antilogMod b with rfl | ⟨y, rfl⟩
    · simp only [gmul_zero_left, gmul_zero_right]
    · rcases eq_zero_or_antilogMod c with rfl | ⟨z, rfl⟩
      · simp only [gmul_zero_right]
      · simp only [gmul_antilogMod, Nat.add_assoc]

theorem gmul_one (a : Sym) : gmul a 1#5 = a := by
  have hone : antilogMod 0 = 1#5 := rfl
  rcases eq_zero_or_antilogMod a with rfl | ⟨x, rfl⟩
  · exact gmul_zero_left _
  · rw [← hone, gmul_antilogMod, Nat.add_zero]

theorem gmul_eq_zero_iff (a b : Sym) : gmul a b = 0#5 ↔ a = 0#5 ∨ b = 0#5 := by
  refine ⟨fun h => ?_, gmul_eq_zero_of_operand_zero⟩
  rcases eq_zero_or_antilogMod a with ha | ⟨x, rfl⟩
  · exact .inl ha
  · rcases eq_zero_or_antilogMod b with hb | ⟨y, rfl⟩
    · exact .inr hb
    · rw [gmul_antilogMod] at h
      exact absurd h (antilogMod_ne_zero _)

/-- The inverse of `2 ^ e` is `2 ^ (30 * e)`, since `2 ^ 31 = 1`. -/
theorem exists_gmul_eq_one {a : Sym} (ha : a ≠ 0#5) : ∃ b, gmul a b = 1#5 := by
  obtain ⟨e, rfl⟩ := (eq_zero_or_antilogMod a).resolve_left ha
  refine ⟨antilogMod (30 * e), ?_⟩
  rw [gmul_antilogMod, antilogMod_congr (show (e + 30 * e) % 31 = 0 % 31 by omega)]
  rfl

theorem gmul_inverse_unique {a b c : Sym} (hb : gmul a b = 1#5) (hc : gmul a c = 1#5) : c = b := by
  calc
    c = gmul c (gmul a b) := by rw [hb, gmul_one]
    _ = gmul (gmul a c) b := by rw [← gmul_assoc, gmul_comm c a]
    _ = b := by rw [hc, gmul_comm, gmul_one]

/-! ### Distributivity (R111, R116): multiplication by 2 is linear, and so are its powers -/

/-- Adding a term on a condition is linear in the condition and the sum together. -/
theorem ite_xor_linear {w : Nat} (p q : Bool) (t u m : BitVec w) :
    (if (p ^^ q) = true then (t ^^^ u) ^^^ m else t ^^^ u) =
      (if p = true then t ^^^ m else t) ^^^ (if q = true then u ^^^ m else u) := by
  cases p <;> cases q
  · rfl
  · exact BitVec.xor_assoc t u m
  · show (t ^^^ u) ^^^ m = (t ^^^ m) ^^^ u
    ac_rfl
  · show t ^^^ u = (t ^^^ m) ^^^ (u ^^^ m)
    calc
      t ^^^ u = (t ^^^ u) ^^^ (m ^^^ m) := by rw [BitVec.xor_self, BitVec.xor_zero]
      _ = (t ^^^ m) ^^^ (u ^^^ m) := by ac_rfl

/-- The reduction of one degree: the modulus is taken away when the degree occurs (R111). -/
def reduceDegree (t : BitVec 9) (d : Nat) : BitVec 9 := if t.getLsbD d then t ^^^ (37#9 <<< (d - 5)) else t

theorem reducePoly_eq_foldl (x : BitVec 9) : reducePoly x = ([8, 7, 6, 5].foldl reduceDegree x).setWidth 5 := rfl

theorem reduceDegree_xor (t u : BitVec 9) (d : Nat) :
    reduceDegree (t ^^^ u) d = reduceDegree t d ^^^ reduceDegree u d := by
  rw [reduceDegree, BitVec.getLsbD_xor, ite_xor_linear]
  rfl

/-- One degree of the reduction is linear, so the reduction is. -/
theorem reducePoly_xor (x y : BitVec 9) : reducePoly (x ^^^ y) = reducePoly x ^^^ reducePoly y := by
  have hfold : ∀ (l : List Nat) (t u : BitVec 9),
      l.foldl reduceDegree (t ^^^ u) = l.foldl reduceDegree t ^^^ l.foldl reduceDegree u := by
    intro l
    induction l with
    | nil => exact fun t u => rfl
    | cons d l ih => exact fun t u => by simp only [List.foldl_cons, reduceDegree_xor, ih]
  simp only [reducePoly_eq_foldl, hfold, BitVec.setWidth_xor]

theorem gmul_two : ∀ b : Sym, gmul 2#5 b = reducePoly (b.setWidth 9 <<< 1) := by decide

theorem antilogMod_succ (e : Nat) : antilogMod (e + 1) = gmul 2#5 (antilogMod e) := by
  have htwo : antilogMod 1 = 2#5 := rfl
  rw [← htwo, gmul_antilogMod, Nat.add_comm]

theorem gmul_xor (a b c : Sym) : gmul a (b ^^^ c) = gmul a b ^^^ gmul a c := by
  rcases eq_zero_or_antilogMod a with rfl | ⟨e, rfl⟩
  · simp only [gmul_zero_left, BitVec.xor_zero]
  · induction e with
    | zero =>
      have hone : ∀ x, gmul (antilogMod 0) x = x := fun x => (gmul_comm _ x).trans (gmul_one x)
      simp only [hone]
    | succ e ih =>
      simp only [antilogMod_succ, gmul_assoc, ih]
      simp only [gmul_two, BitVec.setWidth_xor, BitVec.shiftLeft_xor_distrib, reducePoly_xor]

theorem xor_gmul (a b c : Sym) : gmul (a ^^^ b) c = gmul a c ^^^ gmul b c := by
  simp only [gmul_comm _ c, gmul_xor]

/-! ### The product as a polynomial product (R111, R116): both are sums over the bits of the second factor -/

/-- The sum of the terms at the bits that are set in `b`. -/
def sumOfBits {w : Nat} (b : Sym) (term : Nat → BitVec w) : BitVec w :=
  (List.range 5).foldl (fun t i => if b.getLsbD i then t ^^^ term i else t) 0#w

theorem carrylessProduct_eq_sumOfBits (a b : Sym) :
    carrylessProduct a b = sumOfBits b fun i => a.setWidth 9 <<< i := rfl

theorem sumOfBits_basis : ∀ b : Sym, sumOfBits b (fun i => 1#5 <<< i) = b := by decide

theorem sumOfBits_congr {w : Nat} (b : Sym) {f g : Nat → BitVec w} (h : ∀ i < 5, f i = g i) :
    sumOfBits b f = sumOfBits b g :=
  List.foldl_ext _ _ _ fun _ i hi => by rw [h i (List.mem_range.mp hi)]

/-- A linear function goes through the sum. -/
theorem map_sumOfBits {w w' : Nat} (φ : BitVec w → BitVec w') (hzero : φ 0#w = 0#w')
    (hxor : ∀ x y, φ (x ^^^ y) = φ x ^^^ φ y) (b : Sym) (term : Nat → BitVec w) :
    φ (sumOfBits b term) = sumOfBits b fun i => φ (term i) := by
  rw [sumOfBits, sumOfBits, ← hzero]
  refine (List.foldl_hom φ fun t i => ?_).symm
  split
  · exact (hxor t _).symm
  · rfl

theorem reducePoly_shiftLeft :
    ∀ (a : Sym) (i : Fin 5), reducePoly (a.setWidth 9 <<< i.val) = gmul a (1#5 <<< i.val) := by decide

theorem gmul_eq_reducePoly (a b : Sym) : gmul a b = reducePoly (carrylessProduct a b) := by
  calc
    gmul a b = gmul a (sumOfBits b fun i => 1#5 <<< i) := by rw [sumOfBits_basis]
    _ = sumOfBits b fun i => gmul a (1#5 <<< i) := map_sumOfBits _ (gmul_zero_right a) (gmul_xor a) b _
    _ = sumOfBits b fun i => reducePoly (a.setWidth 9 <<< i) :=
      sumOfBits_congr b fun i hi => (reducePoly_shiftLeft a ⟨i, hi⟩).symm
    _ = reducePoly (carrylessProduct a b) := by
      rw [carrylessProduct_eq_sumOfBits, map_sumOfBits _ rfl reducePoly_xor]

/-! ### The alphabet and the permutation (R43, R44) -/

theorem alpha_injective {a b : Sym} (h : alpha a = alpha b) : a = b :=
  Option.some.inj ((indexOf_alpha a).symm.trans (h ▸ indexOf_alpha b))

theorem alpha_ne_sepCode : ∀ a : Sym, alpha a ≠ sepCode := by decide

theorem perm_perm : ∀ d : Fin 17, perm (perm d) = d := by decide

/-! ### The statements -/

/-- Settles O7: the multiplicative laws are those of the exponents, and distributivity is the linearity of
multiplication by 2. -/
theorem fieldLawsOfGmul : Obligations.FieldLawsOfGmul := by
  refine ⟨gmul_comm, gmul_assoc, gmul_one, gmul_eq_zero_iff, gmul_xor, fun a ha => ?_, gmul_eq_reducePoly⟩
  obtain ⟨b, hb⟩ := exists_gmul_eq_one ha
  exact ⟨b, hb, fun c hc => gmul_inverse_unique hb hc⟩

/-- Settles O6: the tables are finite, and the rows of each are checked one by one. -/
theorem logTablesAreGeneratedByTwo : Obligations.LogTablesAreGeneratedByTwo :=
  ⟨rfl, antilogTable_succ, exists_antilog_eq, logOf_antilog, logOf_zero⟩

/-- Settles O24: that `index_of` finds every symbol's character makes the characters distinct. -/
theorem alphabetDistinctAndPermInvolutive : Obligations.AlphabetDistinctAndPermInvolutive :=
  ⟨fun _ _ => alpha_injective, alpha_ne_sepCode, indexOf_alpha, perm_perm⟩

end Sys2Proof.Machine
end

section
/-! PROOFS. `spec/41_base_conversion.md` R133 and R136: the digits one division pass stores, and the four conversions
one after another. -/

namespace Sys2Proof.Machine

/-! ### The digits of a pass (R133) -/

/-- The accumulator before a reduction is below `bout * bin`. -/
theorem acc_bound {bin bout acc d : Nat} (hacc : acc < bout) (hd : d < bin) : acc * bin + d < bout * bin :=
  calc
    acc * bin + d < (acc + 1) * bin := by rw [Nat.succ_mul]; omega
    _ ≤ bout * bin := Nat.mul_le_mul_right _ hacc

theorem divPass_rem_lt {bin bout : Nat} (hbin : 0 < bin) (hbout : 0 < bout) (wk : List Nat) :
    (divPass bin bout wk).2 < bout := by
  obtain ⟨-, hrem, -⟩ := divPass_spec hbin hbout wk
  exact hrem ▸ Nat.mod_lt _ hbout

theorem head?_append_singleton_ne_zero {q : List Nat} {d : Nat} (hq : q.head? ≠ some 0) (hd : q = [] → d ≠ 0) :
    (q ++ [d]).head? ≠ some 0 := by
  cases q with
  | nil => simpa using hd rfl
  | cons x xs => exact hq

/-- The digits of the quotient are digits in base `bin`, the first of them not 0. -/
theorem divPass_digits {bin bout : Nat} (hbin : 0 < bin) (hbout : 0 < bout) (wk : List Nat) (hwk : ∀ d ∈ wk, d < bin) :
    (∀ d ∈ (divPass bin bout wk).1, d < bin) ∧ (divPass bin bout wk).1.head? ≠ some 0 := by
  induction wk using List.reverseRecOn with
  | nil => simp [divPass_nil]
  | append_singleton wk d ih =>
    rw [divPass_append_singleton]
    obtain ⟨hdigits, hhead⟩ := ih fun x hx => hwk x (List.mem_append_left _ hx)
    have hd : d < bin := hwk d (by simp)
    have hacc := divPass_rem_lt hbin hbout wk
    generalize divPass bin bout wk = st at hdigits hhead hacc ⊢
    obtain ⟨q, acc⟩ := st
    have hstored : ∀ x < bin, ∀ y ∈ q ++ [x], y < bin := fun x hx y hy =>
      (List.mem_append.mp hy).elim (hdigits y) fun hlast => List.mem_singleton.mp hlast ▸ hx
    rcases divDigit_cases bin bout q acc d with ⟨hge, hstep⟩ | ⟨-, hq, hstep⟩ | ⟨-, -, hstep⟩ <;> rw [hstep]
    · have hlt : (acc * bin + d) / bout < bin := Nat.div_lt_of_lt_mul (acc_bound hacc hd)
      exact ⟨hstored _ hlt, head?_append_singleton_ne_zero hhead fun _ => (Nat.div_pos hge hbout).ne'⟩
    · exact ⟨hstored 0 hbin, head?_append_singleton_ne_zero hhead fun hnil => absurd hnil hq⟩
    · exact ⟨nofun, nofun⟩

/-! ### The conversions one after another (R136) -/

section writeDecimal

variable {v : Nat} (hv : v < 10 ^ 20) (s : State)
include hv

/-- Canonical digits just written are a legal operand of their value (R24). -/
theorem decOperandLegal_writeDecimal : decOperandLegal (writeDecimal (lsfDigits 10 v).reverse s) :=
  decOperandLegal_of_canonical (holdsDecimal_of_lsfDigits v hv).canonical s

theorem decSum_writeDecimal :
    decSum (writeDecimal (lsfDigits 10 v).reverse s).decLen.toNat (writeDecimal (lsfDigits 10 v).reverse s).dec = v :=
  decSum_of_canonical (holdsDecimal_of_lsfDigits v hv).canonical

theorem exec_b10to32_writeDecimal (hlt : v < 32 ^ 13) :
    exec .b10to32 (writeDecimal (lsfDigits 10 v).reverse s) =
      .next (((writeDecimal (lsfDigits 10 v).reverse s).setCw (writeData (lsfDigits 32 v) s.cw)).setB32Len
        (BitVec.ofNat 4 (lsfDigits 32 v).length)) := by
  have hsum := decSum_writeDecimal hv s
  have hexec := exec_b10to32_of_legal _ (decOperandLegal_writeDecimal hv s) (hsum.symm ▸ hlt)
  rw [hsum] at hexec
  exact hexec

theorem exec_dectoid_writeDecimal :
    exec .dectoid (writeDecimal (lsfDigits 10 v).reverse s) =
      .next (((writeDecimal (lsfDigits 10 v).reverse s).setId (BitVec.ofNat 64 v)).setOvf (ovfFlag v)) := by
  have hexec := exec_dectoid_of_legal _ (decOperandLegal_writeDecimal hv s)
  rw [decSum_writeDecimal hv s, ← ovfFlag_eq] at hexec
  exact hexec

end writeDecimal

theorem writeDecimal_fault (ds : List Nat) (s : State) : (writeDecimal ds s).fault = s.fault :=
  fault_congr (writeDecimal_status ds s)

theorem execAll_cons {i : Instr} {s t : State} (is : List Instr) (h : exec i s = .next t) :
    execAll (i :: is) s = execAll is t := by
  simp [execAll, h]

/-- What `IDTODEC; B10TO32` leave: the identifier's canonical digits in both bases (R131, R134). -/
def idInBothBases (s : State) : State :=
  ((writeDecimal (lsfDigits 10 s.id.toNat).reverse s).setCw (writeData (lsfDigits 32 s.id.toNat) s.cw)).setB32Len
    (BitVec.ofNat 4 (lsfDigits 32 s.id.toNat).length)

section idInBothBases

variable (s : State)

theorem id_lt_decimal : s.id.toNat < 10 ^ 20 := s.id.isLt.trans (by decide)

theorem id_lt_base32 : s.id.toNat < 32 ^ 13 := s.id.isLt.trans (by decide)

theorem exec_b10to32_idtodec :
    exec .b10to32 (writeDecimal (lsfDigits 10 s.id.toNat).reverse s) = .next (idInBothBases s) :=
  exec_b10to32_writeDecimal (id_lt_decimal s) s (id_lt_base32 s)

/-- The data symbols carry the identifier, so its decimal digits come back. -/
theorem exec_b32to10_idInBothBases :
    exec .b32to10 (idInBothBases s) =
      .next (writeDecimal (lsfDigits 10 s.id.toNat).reverse (idInBothBases s)) := by
  rw [exec_b32to10, show cwSum (idInBothBases s).cw = s.id.toNat from cwSum_writeData _ _ (id_lt_base32 s)]

theorem idInBothBases_fault : (idInBothBases s).fault = s.fault := by
  rw [idInBothBases, State.setB32Len_fault, State.setCw_fault, writeDecimal_fault]

theorem ovfFlag_id : ovfFlag s.id.toNat = 0#1 := by
  rw [ovfFlag_eq, if_neg (Nat.not_le.mpr s.id.isLt)]

end idInBothBases

/-! ### The statements -/

/-- Settles O14: `acc_bound` gives 319 for both pairs, since the remainder before the digit is below `bout`. -/
theorem divisionPassQuotientAndRemainder : Obligations.DivisionPassQuotientAndRemainder := by
  intro bin bout hbases wk hwk
  have hbin : 0 < bin := by omega
  have hbout : 0 < bout := by omega
  obtain ⟨hquot, hrem, hempty⟩ := divPass_spec hbin hbout wk
  obtain ⟨hdigits, hhead⟩ := divPass_digits hbin hbout wk hwk
  refine ⟨hquot, hrem, hdigits, hhead, hempty, fun done d hprefix => ?_⟩
  have hd : d < bin := hwk d (hprefix.subset (by simp))
  have hacc := acc_bound (divPass_rem_lt hbin hbout done) hd
  have hproduct : bout * bin = 320 := by rcases hbases with ⟨rfl, rfl⟩ | ⟨rfl, rfl⟩ <;> rfl
  omega

/-- Settles O17: the base-32 digits carry the identifier to `B32TO10`, which therefore writes the decimal digits that
`IDTODEC` wrote. -/
theorem conversionsAreInverse : Obligations.ConversionsAreInverse := by
  intro s
  refine ⟨_, ((writeDecimal (lsfDigits 10 s.id.toNat).reverse (idInBothBases s)).setId
    (BitVec.ofNat 64 s.id.toNat)).setOvf (ovfFlag s.id.toNat), exec_idtodec s, ?_, ?_, ?_, rfl, rfl, ?_⟩
  · rw [execAll_cons _ (exec_idtodec s), execAll_cons _ (exec_b10to32_idtodec s),
      execAll_cons _ (exec_b32to10_idInBothBases s), execAll_cons _ (exec_dectoid_writeDecimal (id_lt_decimal s) _)]
    rfl
  · rw [State.setOvf_id, State.setId_id, BitVec.ofNat_toNat, BitVec.setWidth_eq]
  · rw [State.setOvf_ovf, ovfFlag_id]
  · rw [State.setOvf_fault, State.setId_fault, writeDecimal_fault, idInBothBases_fault]

end Sys2Proof.Machine
end

section
/-! PROOFS. `spec/42_codeword.md` R151 to R157: the shift register and the check. The register and the data are read as
polynomials at a power of 2 (`horner`): one register step is multiplication by that power and one more data symbol,
since the constants are those of a polynomial that has 2, 4, 8 and 16 as roots. That at most four changed symbols are
found is the Vandermonde argument, by induction on the changed positions. -/

namespace Sys2Proof.Machine

/-! ### The shift register (R151, R152) -/

/-- The register after the first `n` of the 13 steps, most significant data symbol first. -/
def registerAfter (code : Vector Sym 17) (n : Nat) : Vector Sym 4 :=
  ((dataSymbols code).reverse.take n).foldl lfsrStep (Vector.replicate 4 0#5)

theorem registerAfter_thirteen (code : Vector Sym 17) : registerAfter code 13 = parityOf code := by
  rw [registerAfter, List.take_of_length_le (by simp [length_dataSymbols])]
  rfl

theorem registerAfter_succ (code : Vector Sym 17) (n : Fin 13) :
    registerAfter code (n.val + 1) = lfsrStep (registerAfter code n.val) code[12 - n.val] := by
  have hlt : n.val < (dataSymbols code).reverse.length := by simp [length_dataSymbols]
  have hsym : (dataSymbols code).reverse[n.val] = code[12 - n.val] := by simp [dataSymbols]
  rw [registerAfter, List.take_succ_eq_append_getElem hlt, List.foldl_append, hsym]
  rfl

theorem writeParity_data (p : Vector Sym 4) (code : Vector Sym 17) {k : Fin 17} (hk : k.val < 13) :
    (writeParity p code)[k] = code[k] := by
  simp [writeParity, hk]

theorem writeParity_parity (p : Vector Sym 4) (code : Vector Sym 17) (k : Fin 4) :
    (writeParity p code)[13 + k.val] = p[k] := by
  simp [writeParity]

/-! ### Linearity (R152) -/

theorem lfsrStep_xor (p q : Vector Sym 4) (x y : Sym) :
    lfsrStep (Vector.zipWith (· ^^^ ·) p q) (x ^^^ y) =
      Vector.zipWith (· ^^^ ·) (lfsrStep p x) (lfsrStep q y) := by
  have hfb : (x ^^^ y) ^^^ (p[3] ^^^ q[3]) = (x ^^^ p[3]) ^^^ (y ^^^ q[3]) := by ac_rfl
  have hstage : ∀ a b c d : Sym, (a ^^^ b) ^^^ (c ^^^ d) = (a ^^^ c) ^^^ (b ^^^ d) := fun a b c d => by ac_rfl
  apply Vector.ext
  intro k hk
  simp only [lfsrStep_eq, Vector.getElem_zipWith, hfb]
  interval_cases k
  · exact gmul_xor 17 _ _
  · exact (congrArg _ (gmul_xor 9 _ _)).trans (hstage ..)
  · exact (congrArg _ (gmul_xor 6 _ _)).trans (hstage ..)
  · exact (congrArg _ (gmul_xor 30 _ _)).trans (hstage ..)

theorem foldl_lfsrStep_xor (l l' : List Sym) (h : l.length = l'.length) (p q : Vector Sym 4) :
    (List.zipWith (· ^^^ ·) l l').foldl lfsrStep (Vector.zipWith (· ^^^ ·) p q) =
      Vector.zipWith (· ^^^ ·) (l.foldl lfsrStep p) (l'.foldl lfsrStep q) := by
  induction l generalizing l' p q with
  | nil => cases l' with
    | nil => rfl
    | cons y l' => exact nomatch h
  | cons x l ih => cases l' with
    | nil => exact nomatch h
    | cons y l' =>
      rw [List.zipWith_cons_cons, List.foldl_cons, lfsrStep_xor, ih l' (Nat.succ.inj h)]
      rfl

theorem dataSymbols_xor (code other : Vector Sym 17) :
    dataSymbols (Vector.zipWith (· ^^^ ·) code other) =
      List.zipWith (· ^^^ ·) (dataSymbols code) (dataSymbols other) := by
  simp [dataSymbols, List.take_zipWith]

theorem parityOf_xor (code other : Vector Sym 17) :
    parityOf (Vector.zipWith (· ^^^ ·) code other) = Vector.zipWith (· ^^^ ·) (parityOf code) (parityOf other) := by
  have hlen : (dataSymbols code).length = (dataSymbols other).length := by simp only [length_dataSymbols]
  have hzero : Vector.replicate 4 0#5 = Vector.zipWith (· ^^^ ·) (Vector.replicate 4 0#5) (Vector.replicate 4 0#5) :=
    Vector.ext fun _ _ => by simp
  rw [parityOf, dataSymbols_xor, List.reverse_zipWith hlen, hzero, foldl_lfsrStep_xor _ _ (by simpa using hlen)]
  rfl

/-! ### Polynomials at a power of 2 -/

/-- The polynomial with the given coefficients, constant term first, at `2 ^ i`. -/
def horner (i : Nat) (d : List Sym) : Sym := d.foldr (fun x t => x ^^^ gmul t (antilogMod i)) 0#5

/-- The sum of the given coefficients, each times its power of `2 ^ i`. -/
def termSum (i : Nat) (l : List (Sym × Nat)) : Sym := l.foldr (fun c t => gmul c.1 (antilogMod (i * c.2)) ^^^ t) 0#5

theorem termSum_append (i : Nat) (l l' : List (Sym × Nat)) : termSum i (l ++ l') = termSum i l ^^^ termSum i l' := by
  induction l with
  | nil => simp [termSum]
  | cons c l ih =>
    show gmul c.1 _ ^^^ termSum i (l ++ l') = (gmul c.1 _ ^^^ termSum i l) ^^^ termSum i l'
    rw [ih, BitVec.xor_assoc]

theorem termSum_zipIdx (i : Nat) (d : List Sym) (m : Nat) :
    termSum i (d.zipIdx m) = gmul (horner i d) (antilogMod (i * m)) := by
  induction d generalizing m with
  | nil => rfl
  | cons x d ih =>
    show gmul x (antilogMod (i * m)) ^^^ termSum i (d.zipIdx (m + 1)) =
      gmul (x ^^^ gmul (horner i d) (antilogMod i)) (antilogMod (i * m))
    rw [ih, xor_gmul, gmul_assoc, gmul_antilogMod, show i * (m + 1) = i + i * m by ring]

/-- The register's constants make the polynomial whose roots are 2, 4, 8 and 16 (R45, R151). -/
theorem generator_root : ∀ i : Fin 4,
    (17 : Sym) ^^^ gmul 9 (antilogMod (i.val + 1)) ^^^ gmul 6 (antilogMod (2 * (i.val + 1))) ^^^
      gmul 30 (antilogMod (3 * (i.val + 1))) = antilogMod (4 * (i.val + 1)) := by decide

theorem horner_toList (i : Nat) (p : Vector Sym 4) :
    horner i p.toList = p[0] ^^^ gmul p[1] (antilogMod i) ^^^ gmul p[2] (antilogMod (2 * i)) ^^^
      gmul p[3] (antilogMod (3 * i)) := by
  have hp : p.toList = [p[0], p[1], p[2], p[3]] := by
    apply List.ext_getElem (by simp)
    intro n hn _
    have hlt : n < 4 := by simpa using hn
    interval_cases n <;> rfl
  have hlast : ∀ a : Sym, a ^^^ gmul 0#5 (antilogMod i) = a := fun a => by rw [gmul_zero_left, BitVec.xor_zero]
  rw [hp]
  simp only [horner, List.foldr_cons, List.foldr_nil, hlast, xor_gmul, gmul_assoc, gmul_antilogMod, BitVec.xor_assoc,
    show i + i = 2 * i by ring, show 2 * i + i = 3 * i by ring]

/-- One step of the register, read at one of its roots: times the root, plus the data symbol behind the register. -/
theorem horner_lfsrStep (i : Fin 4) (p : Vector Sym 4) (x : Sym) :
    horner (i.val + 1) (lfsrStep p x).toList =
      gmul (horner (i.val + 1) p.toList) (antilogMod (i.val + 1)) ^^^ gmul x (antilogMod (4 * (i.val + 1))) := by
  have hroot := congrArg (gmul (x ^^^ p[3])) (generator_root i)
  generalize i.val + 1 = i at hroot ⊢
  rw [horner_toList, horner_toList, lfsrStep_eq]
  generalize hfb : x ^^^ p[3] = fb at hroot ⊢
  have hcomm : ∀ c e, gmul (gmul c fb) (antilogMod e) = gmul fb (gmul c (antilogMod e)) := fun c e => by
    rw [gmul_comm c, gmul_assoc]
  have hsum : p[3] ^^^ x = fb := by rw [BitVec.xor_comm, hfb]
  simp only [gmul_xor] at hroot
  show gmul 17 fb ^^^ gmul (p[0] ^^^ gmul 9 fb) (antilogMod i) ^^^ gmul (p[1] ^^^ gmul 6 fb) (antilogMod (2 * i)) ^^^
      gmul (p[2] ^^^ gmul 30 fb) (antilogMod (3 * i)) = _
  calc
    _ = (gmul p[0] (antilogMod i) ^^^ gmul p[1] (antilogMod (2 * i)) ^^^ gmul p[2] (antilogMod (3 * i))) ^^^
        (gmul fb 17 ^^^ gmul fb (gmul 9 (antilogMod i)) ^^^ gmul fb (gmul 6 (antilogMod (2 * i))) ^^^
          gmul fb (gmul 30 (antilogMod (3 * i)))) := by
      simp only [xor_gmul, hcomm, gmul_comm 17 fb]
      ac_rfl
    _ = _ := by
      rw [hroot, ← hsum]
      simp only [xor_gmul, gmul_assoc, gmul_antilogMod, show i + i = 2 * i by ring, show 2 * i + i = 3 * i by ring,
        show 3 * i + i = 4 * i by ring]
      ac_rfl

/-- The register after the data symbols `l`, read at a root, is the data read there, moved up by the four stages. -/
theorem horner_foldl_lfsrStep (i : Fin 4) (l : List Sym) :
    horner (i.val + 1) (l.reverse.foldl lfsrStep (Vector.replicate 4 0#5)).toList =
      gmul (horner (i.val + 1) l) (antilogMod (4 * (i.val + 1))) := by
  rw [List.foldl_reverse]
  induction l with
  | nil =>
    rw [List.foldr_nil, horner_toList]
    simp [gmul_zero_left, horner]
  | cons x l ih =>
    rw [List.foldr_cons, horner_lfsrStep, ih]
    show _ = gmul (x ^^^ gmul (horner (i.val + 1) l) (antilogMod (i.val + 1))) (antilogMod (4 * (i.val + 1)))
    rw [xor_gmul, gmul_assoc, gmul_assoc, gmul_comm (antilogMod (4 * (i.val + 1))), BitVec.xor_comm]

/-! ### Sums in the field -/

/-- The sum of the `f k`, for `k` in `T`. -/
def xorSum {ι : Type} (T : Finset ι) (f : ι → Sym) : Sym := T.fold (fun x y : Sym => x ^^^ y) 0#5 f

section xorSum

variable {ι : Type} {T : Finset ι} {f g : ι → Sym}

theorem xorSum_insert [DecidableEq ι] {m : ι} (hm : m ∉ T) : xorSum (insert m T) f = f m ^^^ xorSum T f :=
  Finset.fold_insert hm

theorem xorSum_congr (h : ∀ k ∈ T, f k = g k) : xorSum T f = xorSum T g := Finset.fold_congr h

theorem xorSum_xor : xorSum T (fun k => f k ^^^ g k) = xorSum T f ^^^ xorSum T g :=
  Finset.fold_op_distrib (op := fun x y : Sym => x ^^^ y) (b₁ := 0#5) (b₂ := 0#5)

theorem xorSum_gmul (a : Sym) : xorSum T (fun k => gmul a (f k)) = gmul a (xorSum T f) := by
  rw [xorSum, xorSum, ← Finset.fold_hom (gmul_xor a), gmul_zero_right]

theorem xorSum_eq_zero (h : ∀ k ∈ T, f k = 0#5) : xorSum T f = 0#5 := by
  classical
  rw [xorSum_congr h, xorSum, Finset.fold_const _ BitVec.xor_self]
  exact ite_self _

/-- Terms that are 0 may be left out. -/
theorem xorSum_filter (p : ι → Prop) [DecidablePred p] (h : ∀ k ∈ T, ¬ p k → f k = 0#5) :
    xorSum (T.filter p) f = xorSum T f := by
  have hsplit : ∀ k ∈ T, f k = if p k then f k else 0#5 := fun k hk => by
    split
    · rfl
    · next hp => exact h k hk hp
  have hrest : xorSum (T.filter fun k => ¬ p k) (fun _ => 0#5) = 0#5 := xorSum_eq_zero fun _ _ => rfl
  rw [xorSum_congr hsplit]
  exact ((Finset.fold_ite' BitVec.xor_self p).trans (by rw [← xorSum, ← xorSum, hrest, BitVec.xor_zero])).symm

end xorSum

/-! ### The syndromes (R153) -/

/-- The sum of the `f k`, each times the `i`-th power of its position's element. -/
def powerSum (T : Finset (Fin 17)) (f : Fin 17 → Sym) (i : Nat) : Sym :=
  xorSum T fun k => gmul (f k) (antilogMod (i * posExponent k))

/-- The 17-term sum of R153 as a sum over the positions. -/
theorem syndromeSum_eq_xorSum (code : Vector Sym 17) (shift i : Nat) :
    syndromeSum code shift i =
      xorSum Finset.univ fun k => gmul code[k] (antilogMod (i * (posExponent k + shift))) := by
  rw [xorSum, Finset.fold, Fin.univ_val_map, Multiset.coe_fold_l, List.ofFn_eq_map, List.foldl_map]
  rfl

theorem syndromeSum_eq_powerSum (code : Vector Sym 17) (i : Nat) :
    syndromeSum code 0 i = powerSum Finset.univ (fun k => code[k]) i := syndromeSum_eq_xorSum code 0 i

/-- The term indices that the loop does not skip are the exponents of the 17 positions, in order. -/
theorem filter_termIndices :
    (List.range 31).filter (fun j => decide ¬ (13 ≤ j ∧ j ≤ 26)) = (List.finRange 17).map posExponent := by decide

theorem syndromeTerm_posExponent (code : Vector Sym 17) (i : Nat) (t : Sym) (k : Fin 17) :
    syndromeTerm code i t (posExponent k) = t ^^^ gmul code[k] (antilogMod (i * posExponent k)) := by
  have hk : (if posExponent k ≤ 12 then posExponent k else posExponent k - 14) = k.val := by
    unfold posExponent
    split <;> simp [*]
  have hskip : ¬ (13 ≤ posExponent k ∧ posExponent k ≤ 26) := by
    unfold posExponent
    split <;> omega
  simp [syndromeTerm, hskip, hk]

theorem syndrome_eq_syndromeSum (code : Vector Sym 17) (i : Nat) : syndrome code i = syndromeSum code 0 i := by
  have hskip : syndromeTerm code i = fun t j =>
      if decide (¬ (13 ≤ j ∧ j ≤ 26)) = true then syndromeTerm code i t j else t := by
    funext t j
    by_cases hj : 13 ≤ j ∧ j ≤ 26 <;> simp [syndromeTerm, hj]
  rw [syndrome, hskip, ← List.foldl_filter, filter_termIndices, List.foldl_map]
  simp only [syndromeTerm_posExponent]
  rfl

/-- A shift of all exponents multiplies the sum by a power of 2 (R157). -/
theorem syndromeSum_shift (code : Vector Sym 17) (shift i : Nat) :
    syndromeSum code shift i = gmul (antilogMod (i * shift)) (syndromeSum code 0 i) := by
  rw [syndromeSum_eq_xorSum, syndromeSum_eq_xorSum, ← xorSum_gmul]
  refine xorSum_congr fun k _ => ?_
  rw [gmul_comm (antilogMod _), gmul_assoc, gmul_antilogMod, Nat.add_zero, Nat.mul_add]

/-- The verdict of the check, by the 17-term sums (R154). -/
theorem validFlag_syndromes_iff (code : Vector Sym 17) :
    validFlag (syndromes code) = 1#1 ↔ ∀ i : Fin 4, syndromeSum code 0 (i.val + 1) = 0#5 := by
  rw [validFlag_eq_one_iff]
  simp [syndromes, syndrome_eq_syndromeSum]

/-! ### The parity is right (R155) -/

/-- The positions of a codeword with their exponents: the data from 0 on, the parity from 27 on (R153). -/
theorem finRange_map_position (p : Vector Sym 4) (code : Vector Sym 17) :
    (List.finRange 17).map (fun k => ((writeParity p code)[k], posExponent k)) =
      (dataSymbols code).zipIdx ++ p.toList.zipIdx 27 := by
  apply List.ext_getElem
  · simp [length_dataSymbols]
  · intro n hn _
    have hlt : n < 17 := by simpa using hn
    rw [List.getElem_map, List.getElem_finRange, List.getElem_append]
    split
    · next hdata =>
      have h13 : n < 13 := by simpa [length_dataSymbols] using hdata
      simp [writeParity, posExponent, dataSymbols, h13, Nat.le_of_lt_succ h13]
    · next hparity =>
      have h13 : 13 ≤ n := by simpa [length_dataSymbols] using hparity
      simp [writeParity, posExponent, length_dataSymbols, Nat.not_lt.mpr h13, show ¬ n ≤ 12 by omega]
      omega

theorem syndromeSum_eq_termSum (code : Vector Sym 17) (i : Nat) :
    syndromeSum code 0 i = termSum i ((List.finRange 17).map fun k => (code[k], posExponent k)) := by
  rw [syndromeSum_eq_xorSum, xorSum, Finset.fold, Fin.univ_val_map, Multiset.coe_fold_r, List.ofFn_eq_map,
    List.foldr_map, termSum, List.foldr_map]
  rfl

theorem syndromeSum_writeParity (code : Vector Sym 17) (i : Fin 4) :
    syndromeSum (writeParity (parityOf code) code) 0 (i.val + 1) = 0#5 := by
  have hturn : antilogMod (4 * (i.val + 1) + (i.val + 1) * 27) = antilogMod ((i.val + 1) * 0) :=
    antilogMod_congr (by omega)
  rw [syndromeSum_eq_termSum, finRange_map_position, termSum_append, termSum_zipIdx, termSum_zipIdx, parityOf,
    horner_foldl_lfsrStep, gmul_assoc, gmul_antilogMod, hturn, BitVec.xor_self]

/-! ### At most four changed symbols (R156) -/

section powerSum

variable {T : Finset (Fin 17)} (f g : Fin 17 → Sym) (m : Fin 17) (i : Nat)

theorem powerSum_insert {m : Fin 17} (hm : m ∉ T) :
    powerSum (insert m T) f i = gmul (f m) (antilogMod (i * posExponent m)) ^^^ powerSum T f i := xorSum_insert hm

theorem powerSum_xor : powerSum T (fun k => f k ^^^ g k) i = powerSum T f i ^^^ powerSum T g i := by
  simp only [powerSum, xor_gmul, xorSum_xor]

variable {f} in
theorem powerSum_eq_zero (h : ∀ k ∈ T, f k = 0#5) : powerSum T f i = 0#5 :=
  xorSum_eq_zero fun k hk => by rw [h k hk, gmul_zero_left]

/-- The coefficients times the differences from the element of position `m`, so that `m` drops out. -/
def dropPosition (k : Fin 17) : Sym := gmul (f k) (antilogMod (posExponent k) ^^^ antilogMod (posExponent m))

theorem dropPosition_self : dropPosition f m m = 0#5 := by
  rw [dropPosition, BitVec.xor_self, gmul_zero_right]

/-- Elements of different positions are different. -/
theorem dropPosition_eq_zero {k : Fin 17} (hne : k ≠ m) (h : dropPosition f m k = 0#5) : f k = 0#5 := by
  have hinj : ∀ k m : Fin 17, posExponent k % 31 = posExponent m % 31 → k = m := by decide
  refine ((gmul_eq_zero_iff _ _).mp h).resolve_right fun hzero => hne ?_
  exact hinj k m (antilogMod_inj (BitVec.xor_eq_zero_iff.mp hzero))

theorem powerSum_dropPosition :
    powerSum T (dropPosition f m) i =
      powerSum T f (i + 1) ^^^ gmul (antilogMod (posExponent m)) (powerSum T f i) := by
  rw [powerSum, powerSum, powerSum, ← xorSum_gmul, ← xorSum_xor]
  refine xorSum_congr fun k _ => ?_
  rw [dropPosition, Nat.succ_mul, Nat.add_comm _ (posExponent k), ← gmul_antilogMod, gmul_xor, xor_gmul, gmul_assoc,
    gmul_comm (f k) (antilogMod (posExponent m)), gmul_assoc]

end powerSum

/-- The Vandermonde argument: when as many consecutive power sums vanish as there are positions, every coefficient is
0, by dropping one position after another. -/
theorem eq_zero_of_powerSums (T : Finset (Fin 17)) (f : Fin 17 → Sym)
    (h : ∀ i, 1 ≤ i → i ≤ T.card → powerSum T f i = 0#5) : ∀ k ∈ T, f k = 0#5 := by
  induction T using Finset.induction_on generalizing f with
  | empty => exact nofun
  | insert m T hm ih =>
    rw [Finset.card_insert_of_notMem hm] at h
    have hdropped : ∀ i, 1 ≤ i → i ≤ T.card → powerSum T (dropPosition f m) i = 0#5 := fun i hone hi =>
      calc
        _ = powerSum (insert m T) (dropPosition f m) i := by
          rw [powerSum_insert _ _ hm, dropPosition_self, gmul_zero_left, BitVec.zero_xor]
        _ = 0#5 := by
          rw [powerSum_dropPosition, h i hone (by omega), h (i + 1) (by omega) (by omega), gmul_zero_right,
            BitVec.xor_self]
    have hothers : ∀ k ∈ T, f k = 0#5 := fun k hk =>
      dropPosition_eq_zero f m (fun hkm => hm (hkm ▸ hk)) (ih _ hdropped k hk)
    have hlast := h 1 le_rfl (by omega)
    rw [powerSum_insert _ _ hm, powerSum_eq_zero _ hothers, BitVec.xor_zero, gmul_eq_zero_iff] at hlast
    have hfm : f m = 0#5 := hlast.resolve_right (antilogMod_ne_zero _)
    exact fun k hk => (Finset.mem_insert.mp hk).elim (fun hkm => hkm ▸ hfm) (hothers k)

theorem symbolDistance_eq_card (code other : Vector Sym 17) :
    symbolDistance code other = (Finset.univ.filter fun k : Fin 17 => code[k] ≠ other[k]).card := by
  rw [symbolDistance, List.countP_eq_length_filter]
  show _ = (List.filter _ (List.finRange 17)).length
  congr 2
  funext k
  rw [Bool.eq_iff_iff, bne_iff_ne, decide_eq_true_iff]

/-- Two codewords that both pass the check are equal or differ in more than four positions. -/
theorem symbolDistance_eq_zero_of_valid {code other : Vector Sym 17} (hcode : validFlag (syndromes code) = 1#1)
    (hother : validFlag (syndromes other) = 1#1) (h : symbolDistance code other ≤ 4) :
    symbolDistance code other = 0 := by
  rw [symbolDistance_eq_card] at h ⊢
  have hzero := eq_zero_of_powerSums (Finset.univ.filter fun k : Fin 17 => code[k] ≠ other[k])
    (fun k => code[k] ^^^ other[k]) fun i hone hi => ?_
  · refine Finset.card_eq_zero.mpr (Finset.eq_empty_of_forall_notMem fun k hk => ?_)
    exact (Finset.mem_filter.mp hk).2 (BitVec.xor_eq_zero_iff.mp (hzero k hk))
  · obtain ⟨i, rfl⟩ : ∃ n, i = n + 1 := ⟨i - 1, by omega⟩
    have hc := (validFlag_syndromes_iff code).mp hcode ⟨i, by omega⟩
    have ho := (validFlag_syndromes_iff other).mp hother ⟨i, by omega⟩
    rw [syndromeSum_eq_powerSum] at hc ho
    rw [powerSum, xorSum_filter, ← powerSum, powerSum_xor, hc, ho, BitVec.xor_self]
    intro k _ hk
    rw [not_not.mp hk, BitVec.xor_self, gmul_zero_left]

/-! ### What `RSPAR` does, and the verdict -/

theorem exec_rspar (s : State) :
    exec .rspar s = .next { s with p := parityOf s.cw, cw := writeParity (parityOf s.cw) s.cw } := by
  rw [← rsPar_eq]
  rfl

theorem eq_zero_of_ne_one {b : BitVec 1} (h : b ≠ 1#1) : b = 0#1 := (BitVec.eq_zero_or_eq_one b).resolve_right h

/-! ### The statements -/

/-- Settles O18: `registerAfter` takes the symbols of the fold one at a time. -/
theorem rsparRunsThirteenRegisterSteps : Obligations.RsparRunsThirteenRegisterSteps := by
  refine ⟨decode_encode .rspar, fun s => ⟨registerAfter s.cw, writeParity (parityOf s.cw) s.cw, ?_, ?_, ?_, rfl, ?_⟩⟩
  · rw [registerAfter_thirteen, exec_rspar]
  · exact fun k hk => writeParity_data _ s.cw hk
  · rw [registerAfter_thirteen]
    exact writeParity_parity _ s.cw
  · intro n
    rw [registerAfter_succ, lfsrStep_eq]

/-- Settles O19: a register step is linear because the multiplications are. -/
theorem parityIsLinearInTheData : Obligations.ParityIsLinearInTheData := parityOf_xor

/-- Settles O20: the loop skips the indices that are no position's exponent. -/
theorem rschkWritesSyndromesAndVerdict : Obligations.RschkWritesSyndromesAndVerdict := by
  refine ⟨decode_encode .rschk, fun s => ⟨syndromes s.cw, validFlag (syndromes s.cw), ?_, fun i => ?_,
    validFlag_eq_one_iff _⟩⟩
  · rw [exec_rschk, syndromeCheck_eq]
  · rw [← syndrome_eq_syndromeSum]
    simp [syndromes]

/-- Settles O21: the parity, 27 places up, is the data read at the root four places up, and 2^31 is 1. -/
theorem parityThenCheckIsValid : Obligations.ParityThenCheckIsValid := by
  intro s
  have hvalid : validFlag (syndromes (writeParity (parityOf s.cw) s.cw)) = 1#1 :=
    (validFlag_syndromes_iff _).mpr (syndromeSum_writeParity s.cw)
  refine ⟨_, _, exec_rspar s, exec_rschk _, ?_, ?_⟩
  · rw [syndromeCheck_valid]
    exact hvalid
  · exact (validFlag_eq_one_iff _).mp hvalid

/-- Settles O22: two valid codewords would have to differ in more than four positions. -/
theorem upToFourChangedSymbolsAreDetected : Obligations.UpToFourChangedSymbolsAreDetected := by
  intro s t s' hs hvalid hone hfour
  refine ⟨syndromeCheck t, exec_rschk t, eq_zero_of_ne_one fun ht => ?_⟩
  cases hs
  rw [syndromeCheck_valid] at ht
  have hs := (syndromeCheck_valid s).symm.trans hvalid
  exact absurd (symbolDistance_eq_zero_of_valid hs ht hfour) (by omega)

/-- Settles O23: the shifted sums are the sums times powers of 2, so they are 0 together. -/
theorem verdictIndependentOfExponentShift : Obligations.VerdictIndependentOfExponentShift := by
  intro s shift
  refine ⟨syndromeCheck s, exec_rschk s, ?_⟩
  rw [syndromeCheck_valid, validFlag_syndromes_iff]
  refine forall_congr' fun i => ?_
  rw [syndromeSum_shift s.cw shift, gmul_eq_zero_iff, or_iff_right (antilogMod_ne_zero _)]

end Sys2Proof.Machine
end

section
/-! PROOFS. `spec/43_alphabet.md` section 4: scans. What a scan leaves after any number of recognized characters is said
once, as `Scanned`, and kept by every further character; the statements are its cases by that number. -/

namespace Sys2Proof.Machine

/-! ### Lists of commands -/

theorem execAll_append {is : List Instr} {s t : State} (js : List Instr) (h : execAll is s = .next t) :
    execAll (is ++ js) s = execAll js t := by
  induction is generalizing s with
  | nil =>
    cases h
    rfl
  | cons i is ih =>
    obtain ⟨u, hu⟩ := exec_answers_next i s
    rw [execAll_cons is hu] at h
    rw [List.cons_append, execAll_cons _ hu, ih h]

theorem execAll_singleton {i : Instr} {s t : State} (h : exec i s = .next t) : execAll [i] s = .next t :=
  execAll_cons [] h

theorem execAll_map_putc (cs : List CharCode) (s : State) :
    execAll (cs.map Instr.putc) s = .next (cs.foldl (fun t c => putC c t) s) := by
  induction cs generalizing s with
  | nil => rfl
  | cons c cs ih => rw [List.map_cons, execAll_cons _ (exec_putc c s), ih, List.foldl_cons]

/-! ### Recognized characters (R173) -/

theorem recognized_eq_isSome (c : CharCode) : recognized c = (indexOf c).isSome := by
  rw [indexOf, Option.isSome_map, List.findIdx?_isSome, recognized, List.contains_eq_any_beq]
  simp only [BEq.comm]

theorem putC_unrecognized {c : CharCode} (hc : indexOf c = none) (s : State) : putC c s = s := by
  by_cases ht : s.tag = 0#2
  · exact putC_of_unrecognized ht hc
  · exact putC_of_pending ht

/-- `PUTC` on a character that is not in the alphabet is the identity, whatever the tag (R179). -/
theorem putC_eq_ite_recognized (c : CharCode) (s : State) : putC c s = if recognized c = true then putC c s else s := by
  split
  · rfl
  · next hc =>
    rw [recognized_eq_isSome, Bool.not_eq_true, Option.isSome_eq_false_iff, Option.isNone_iff_eq_none] at hc
    exact putC_unrecognized hc s

/-! ### What a scan leaves (R178, R179) -/

/-- `t` is what a scan begun in `s` leaves when the recognized characters so far are those of the symbols `xs`. -/
structure Scanned (s t : State) (xs : List Sym) : Prop where
  frame : t = { s with cw := t.cw, status := t.status }
  tag : t.tag = if xs.length ≤ 17 then 0#2 else 1#2
  cnt : t.cnt.toNat = min xs.length 17
  valid : t.valid = s.valid
  ovf : t.ovf = s.ovf
  fault : t.fault = s.fault
  placed : ∀ d : Fin 17, t.cw[perm d] = xs.getD d.val 0#5

theorem scanned_pBegin (s : State) : Scanned s (pBegin s) [] where
  frame := rfl
  tag := by simp [pBegin, tagCode]
  cnt := by simp [pBegin]
  valid := by simp [pBegin]
  ovf := by simp [pBegin]
  fault := by simp [pBegin]
  placed d := by simp [pBegin]

theorem perm_val_inj {d e : Fin 17} : (perm d).val = (perm e).val ↔ d = e := by
  refine ⟨fun h => ?_, fun h => h ▸ rfl⟩
  rw [← perm_perm d, Fin.ext h, perm_perm]

/-- Placing a symbol at the next display position. -/
theorem placed_append {code : Vector Sym 17} {xs : List Sym} (h : ∀ d : Fin 17, code[perm d] = xs.getD d.val 0#5)
    (hroom : xs.length < 17) (x : Sym) (d : Fin 17) :
    (code.set (perm ⟨xs.length, hroom⟩) x)[perm d] = (xs ++ [x]).getD d.val 0#5 := by
  rw [Fin.getElem_fin, Vector.getElem_set]
  split
  · next hnext =>
    rw [← perm_val_inj.mp hnext]
    simp
  · next hother =>
    have hne : d.val ≠ xs.length := fun e => hother (perm_val_inj.mpr (Fin.ext e.symm))
    refine (h d).trans ?_
    rcases Nat.lt_or_gt_of_ne hne with hlt | hgt
    · rw [List.getD_append _ _ _ _ hlt]
    · rw [List.getD_eq_default _ _ hgt.le, List.getD_eq_default _ _ (by simpa using hgt)]

theorem frame_of_frame {s t : State} (h : t = { s with cw := t.cw, status := t.status }) (code : Vector Sym 17)
    (w : BitVec 16) : { t with cw := code, status := w } = { s with cw := code, status := w } := by
  rw [h]

/-- One more recognized character: placed, or the eighteenth, or held off by the tag of the eighteenth. -/
theorem Scanned.putC {s t : State} {xs : List Sym} {c : CharCode} {x : Sym} (h : Scanned s t xs)
    (hc : indexOf c = some x) : Scanned s (putC c t) (xs ++ [x]) := by
  obtain ⟨hframe, htag, hcnt, hvalid, hovf, hfault, hplaced⟩ := h
  have hlen : (xs ++ [x]).length = xs.length + 1 := List.length_append
  have hkept : 17 ≤ xs.length → ∀ d : Fin 17, t.cw[perm d] = (xs ++ [x]).getD d.val 0#5 := fun hge d => by
    rw [hplaced d, List.getD_append _ _ _ _ (by omega)]
  rcases lt_trichotomy xs.length 17 with hlt | heq | hgt
  · have hcount : t.cnt.toNat = xs.length := by omega
    have hroom := putC_of_room (htag.trans (if_pos (by omega))) hc (hcount.symm ▸ hlt)
    simp only [hcount] at hroom
    rw [hroom]
    constructor
    case frame => exact frame_of_frame hframe _ _
    case tag => rw [State.setCnt_tag, State.setCw_tag, htag, if_pos (by omega), if_pos (by omega)]
    case cnt =>
      rw [State.setCnt_cnt]
      bv_omega
    case valid => exact (State.setCnt_valid _ _).trans hvalid
    case ovf => exact (State.setCnt_ovf _ _).trans hovf
    case fault => exact (State.setCnt_fault _ _).trans hfault
    case placed => exact placed_append hplaced hlt x
  · rw [putC_of_full (htag.trans (if_pos (by omega))) hc (by omega)]
    constructor
    case frame => exact frame_of_frame hframe _ _
    case tag => rw [State.setTag_tag, if_neg (by omega)]
    case cnt => rw [State.setTag_cnt, hcnt]; omega
    case valid => exact (State.setTag_valid _ _).trans hvalid
    case ovf => exact (State.setTag_ovf _ _).trans hovf
    case fault => exact (State.setTag_fault _ _).trans hfault
    case placed => exact hkept heq.ge
  · rw [if_neg (by omega)] at htag
    rw [putC_of_pending (by rw [htag]; decide)]
    exact ⟨hframe, by rw [htag, if_neg (by omega)], by omega, hvalid, hovf, hfault, hkept hgt.le⟩

/-- The state after `PBEGIN` and the `PUTC`s of a string. -/
def scanState (cs : List CharCode) (s : State) : State := cs.foldl (fun t c => putC c t) (pBegin s)

theorem execAll_scan (cs : List CharCode) (s : State) : execAll (scan cs) s = .next (scanState cs s) := by
  have hbegin : exec .pbegin s = .next (pBegin s) := rfl
  rw [scan, execAll_cons _ hbegin, execAll_map_putc, scanState]

theorem scanned_scanState (cs : List CharCode) (s : State) : Scanned s (scanState cs s) (recognizedSymbols cs) := by
  induction cs using List.reverseRecOn with
  | nil => exact scanned_pBegin s
  | append_singleton cs c ih =>
    rw [scanState, List.foldl_append, ← scanState, recognizedSymbols, List.filterMap_append, ← recognizedSymbols]
    cases hc : indexOf c with
    | none =>
      rw [List.filterMap_cons_none hc]
      simpa [putC_unrecognized hc] using ih
    | some x =>
      rw [List.filterMap_cons_some hc]
      exact ih.putC hc

/-! ### The statements -/

/-- Settles O32: the fold over the string skips the characters that change nothing. -/
theorem scanIgnoresUnrecognizedCharacters : Obligations.ScanIgnoresUnrecognizedCharacters := by
  intro cs s
  have hskip : (fun (t : State) c => putC c t) = fun t c => if recognized c = true then putC c t else t := by
    funext t c
    exact putC_eq_ite_recognized c t
  rw [execAll_map_putc, execAll_map_putc, List.foldl_filter, ← hskip]

/-- Settles O33: at most 17 symbols, so every one was placed. -/
theorem scanPlacesSymbolsByPermutation : Obligations.ScanPlacesSymbolsByPermutation := by
  intro cs s hlen
  obtain ⟨hframe, htag, hcnt, hvalid, hovf, hfault, hplaced⟩ := scanned_scanState cs s
  exact ⟨scanState cs s, execAll_scan cs s, hframe, htag.trans (if_pos hlen), hcnt.trans (min_eq_left hlen), hvalid,
    hovf, hfault, hplaced⟩

/-- Settles O34: the tag of the eighteenth symbol holds off every later `PUTC`, and `PEND` and `DECODE`. -/
theorem eighteenCharactersAreTooLong : Obligations.EighteenCharactersAreTooLong := by
  intro cs s hlen
  obtain ⟨hframe, htag, hcnt, -, -, -, hplaced⟩ := scanned_scanState cs s
  rw [if_neg (by omega)] at htag
  have hpending : (scanState cs s).tag ≠ 0#2 := by rw [htag]; decide
  have hpend := pEnd_of_pending hpending
  refine ⟨scanState cs s, execAll_scan cs s, hframe, htag, BitVec.eq_of_toNat_eq (hcnt.trans (min_eq_right (by omega))),
    hplaced, ?_, ?_⟩
  · rw [exec_pend, hpend]
  · rw [exec_decode, decodeCw_of_pEnd_tagged (hpend.symm ▸ hpending), hpend]

/-- Settles O35: the count is not 17, so `DECODE` signals before any check. -/
theorem fewerThanSeventeenAreInvalid : Obligations.FewerThanSeventeenAreInvalid := by
  intro cs s hlen
  obtain ⟨hframe, htag, hcnt, hvalid, hovf, -, -⟩ := scanned_scanState cs s
  have hcount : (scanState cs s).cnt.toNat = (recognizedSymbols cs).length := by omega
  have hwrong : (scanState cs s).cnt ≠ 17#5 := fun h => by rw [h] at hcount; exact absurd hcount.symm hlen.ne
  have hdecode := decodeCw_of_pEnd_invalid (pEnd_of_wrong_count (htag.trans (if_pos (by omega))) hwrong)
  refine ⟨(scanState cs s).setTag 2#2, ?_, frame_of_frame hframe _ _, State.setTag_tag _ _, ?_, ?_, ?_⟩
  · rw [execAll_append _ (execAll_scan cs s), ← hdecode]
    exact execAll_singleton (exec_decode _)
  · rw [State.setTag_cnt, hcount]
  · rw [State.setTag_valid, hvalid]
  · rw [State.setTag_ovf, hovf]

end Sys2Proof.Machine
end

section
/-! PROOFS. `spec/44_codec_ops.md` R190, R191, R195 and `spec/70_reset_and_hazards.md` R244: encoding and decoding
together. The display string of a codeword is scanned back into that codeword, so decoding an encoding is the check of a
valid codeword, and an encoding with one character changed is the string of a codeword that differs in one symbol. -/

namespace Sys2Proof.Machine

/-! ### The codeword that `ENCODE` builds (R190) -/

theorem dataSymbols_congr {code other : Vector Sym 17} (h : ∀ k : Fin 17, k.val < 13 → code[k] = other[k]) :
    dataSymbols code = dataSymbols other := by
  apply List.ext_getElem
  · simp [length_dataSymbols]
  · intro n hn _
    have hlt : n < 13 := length_dataSymbols code ▸ hn
    simpa [dataSymbols] using h ⟨n, by omega⟩ hlt

theorem writeParity_congr (p : Vector Sym 4) {code other : Vector Sym 17}
    (h : ∀ k : Fin 17, k.val < 13 → code[k] = other[k]) : writeParity p code = writeParity p other := by
  apply Vector.ext
  intro n hn
  rw [writeParity, writeParity, Vector.getElem_ofFn, Vector.getElem_ofFn]
  split
  · next hlt => exact h ⟨n, hn⟩ hlt
  · rfl

theorem parityOf_congr {code other : Vector Sym 17} (h : ∀ k : Fin 17, k.val < 13 → code[k] = other[k]) :
    parityOf code = parityOf other := by
  rw [parityOf, parityOf, dataSymbols_congr h]

/-- The data symbols that are written do not depend on what `CW` held. -/
theorem writeData_data_congr (ds : List Nat) (code other : Vector Sym 17) (k : Fin 17) (hk : k.val < 13) :
    (writeData ds code)[k] = (writeData ds other)[k] := by
  simp [writeData, hk]

/-- The parity is not counted in a codeword's value (R130). -/
theorem cwSum_writeParity (p : Vector Sym 4) (code : Vector Sym 17) : cwSum (writeParity p code) = cwSum code := by
  refine Finset.sum_congr rfl fun n hn => ?_
  have hlt : n < 13 := Finset.mem_range.mp hn
  have hdata := writeParity_data p code (k := ⟨n, by omega⟩) hlt
  rw [Vector.getElem?_eq_getElem (by omega), Vector.getElem?_eq_getElem (by omega)]
  exact congrArg (fun x : Sym => x.toNat * 32 ^ n) hdata

theorem encodeId_eq_fmtStr (s : State) : encodeId s = fmtStr (rsPar (idInBothBases s)) := by
  have hb10to32 : b10To32 (idToDec s) = idInBothBases s := by
    have hidtodec : idToDec s = writeDecimal (lsfDigits 10 s.id.toNat).reverse s :=
      Host.Outcome.next.inj (exec_idtodec s)
    exact Host.Outcome.next.inj (hidtodec ▸ exec_b10to32_idtodec s)
  rw [encodeId, hb10to32]

section encoded

variable (s : State)

/-- The codeword of an identifier: its base-32 digits with their parity. -/
theorem encodeId_cw :
    (encodeId s).cw = writeParity (parityOf (idInBothBases s).cw) (idInBothBases s).cw := by
  rw [encodeId_eq_fmtStr, fmtStr, State.setStr_cw, rsPar, State.setCw_cw]

theorem encodeId_str : (encodeId s).str = displayString (encodeId s).cw := by
  rw [encodeId_eq_fmtStr, fmtStr, State.setStr_str, State.setStr_cw]
  rfl

theorem encodeId_p : (encodeId s).p = parityOf (idInBothBases s).cw := by
  rw [encodeId_eq_fmtStr, fmtStr, State.setStr_p, rsPar, State.setCw_p, State.setP_p]

theorem encodeId_b32Len : (encodeId s).b32Len = BitVec.ofNat 4 (lsfDigits 32 s.id.toNat).length := by
  rw [encodeId_eq_fmtStr, fmtStr, State.setStr_b32Len, rsPar, State.setCw_b32Len, State.setP_b32Len, idInBothBases,
    State.setB32Len_b32Len]

theorem encodeId_decLen : (encodeId s).decLen = BitVec.ofNat 5 (lsfDigits 10 s.id.toNat).reverse.length := by
  rw [encodeId_eq_fmtStr, fmtStr, State.setStr_decLen, rsPar, State.setCw_decLen, State.setP_decLen, idInBothBases,
    State.setB32Len_decLen, State.setCw_decLen, writeDecimal_eq]

theorem encodeId_dec :
    (encodeId s).dec = Vector.ofFn fun i => BitVec.ofNat 4 ((lsfDigits 10 s.id.toNat).reverse.getD i.val 0) := by
  rw [encodeId_eq_fmtStr, fmtStr, State.setStr_dec, rsPar, State.setCw_dec, State.setP_dec, idInBothBases,
    State.setB32Len_dec, State.setCw_dec, writeDecimal_eq]

theorem encodeId_status : (encodeId s).status = s.status := by
  obtain ⟨n, d, code, m, p, str, h⟩ := encodeId_eq s
  rw [h]

theorem encodeId_id : (encodeId s).id = s.id := by
  obtain ⟨n, d, code, m, p, str, h⟩ := encodeId_eq s
  rw [h]

theorem encodeId_valid : validFlag (syndromes (encodeId s).cw) = 1#1 := by
  rw [validFlag_syndromes_iff, encodeId_cw]
  exact syndromeSum_writeParity _

theorem cwSum_encodeId : cwSum (encodeId s).cw = s.id.toNat := by
  rw [encodeId_cw, cwSum_writeParity]
  exact cwSum_writeData _ _ (id_lt_base32 s)

end encoded

/-! ### The display string scanned back (R177, R179) -/

theorem filterMap_displaySlots : displaySlots.filterMap id = List.finRange 17 := by decide

theorem length_displaySlots : displaySlots.length = 20 := by decide

theorem indexOf_sepCode : indexOf sepCode = none := by decide

theorem displayString_toList (code : Vector Sym 17) :
    (displayString code).toList = displaySlots.map (slotChar code) := by
  apply List.ext_getElem
  · simp [length_displaySlots]
  · intro n hn hn'
    have hlt : n < displaySlots.length := by simpa using hn'
    have hslot := List.getElem?_eq_getElem hlt
    rw [List.getElem_map, Vector.getElem_toList, displayString_getElem _ hslot]

theorem indexOf_slotChar (code : Vector Sym 17) (slot : Option (Fin 17)) :
    indexOf (slotChar code slot) = slot.map fun d => code[perm d] := by
  cases slot with
  | none => exact indexOf_sepCode
  | some d => exact indexOf_alpha _

theorem recognizedSymbols_displayString (code : Vector Sym 17) :
    recognizedSymbols (displayString code).toList = (List.finRange 17).map fun d => code[perm d] := by
  rw [recognizedSymbols, displayString_toList, List.filterMap_map, ← filterMap_displaySlots, List.map_filterMap]
  congr 1
  funext slot
  exact indexOf_slotChar code slot

/-- The display positions show every symbol of a codeword. -/
theorem eq_of_displayed_eq {code other : Vector Sym 17} (h : ∀ d : Fin 17, code[perm d] = other[perm d]) :
    code = other := by
  apply Vector.ext
  intro n hn
  simpa [perm_perm] using h (perm ⟨n, hn⟩)

/-- A scan of the display string of a codeword is complete and has that codeword in `CW`. -/
theorem scanState_displayString (code : Vector Sym 17) (u : State) :
    (scanState (displayString code).toList u).tag = 0#2 ∧ (scanState (displayString code).toList u).cnt = 17#5 ∧
      (scanState (displayString code).toList u).cw = code := by
  obtain ⟨-, htag, hcnt, -, -, -, hplaced⟩ := scanned_scanState (displayString code).toList u
  rw [recognizedSymbols_displayString] at htag hcnt hplaced
  have hlen : ((List.finRange 17).map fun d => code[perm d]).length = 17 := by simp
  refine ⟨htag.trans (if_pos hlen.le), BitVec.eq_of_toNat_eq (by rw [hcnt, hlen]; rfl), eq_of_displayed_eq fun d => ?_⟩
  rw [hplaced d, List.getD_eq_getElem _ _ (by simp), List.getElem_map, List.getElem_finRange]
  rfl

/-! ### One changed character (R156) -/

/-- The slot of `STR[n]`. -/
theorem exists_slot (n : Fin 20) : ∃ slot, displaySlots[n.val]? = some slot :=
  ⟨_, List.getElem?_eq_getElem (n.isLt.trans_eq length_displaySlots.symm)⟩

/-- A display position has one slot. -/
theorem slot_position_unique : ∀ (n : Fin 20) (d : Fin 17), displaySlots[n.val]? = some (some d) →
    n.val = d.val + min (d.val / 4) 3 := by decide

theorem slotChar_set (code : Vector Sym 17) (d : Fin 17) (x : Sym) (slot : Option (Fin 17)) :
    slotChar (code.set (perm d) x) slot = if slot = some d then alpha x else slotChar code slot := by
  cases slot with
  | none => rfl
  | some e =>
    simp only [slotChar, Fin.getElem_fin, Vector.getElem_set, perm_val_inj, Option.some.injEq, eq_comm (a := d)]
    split <;> rfl

/-- Another character at a display position gives the string of the codeword with another symbol there. -/
theorem displayString_set (code : Vector Sym 17) {n : Fin 20} {d : Fin 17} (x : Sym)
    (h : displaySlots[n.val]? = some (some d)) :
    (displayString code).toList.set n.val (alpha x) = (displayString (code.set (perm d) x)).toList := by
  rw [displayString_toList, displayString_toList]
  apply List.ext_getElem
  · simp
  · intro m hm hm'
    have hlt : m < displaySlots.length := by simpa using hm'
    have hslot : displaySlots[m] = some d ↔ n.val = m := by
      constructor
      · intro hm
        have hm20 : m < 20 := length_displaySlots ▸ hlt
        rw [slot_position_unique n d h]
        exact (slot_position_unique ⟨m, hm20⟩ d ((List.getElem?_eq_getElem hlt).trans (congrArg some hm))).symm
      · rintro rfl
        exact Option.some.inj ((List.getElem?_eq_getElem hlt).symm.trans h)
    rw [List.getElem_set, List.getElem_map, List.getElem_map, slotChar_set]
    simp only [hslot]

theorem symbolDistance_set (code : Vector Sym 17) (k : Fin 17) {x : Sym} (h : x ≠ code[k]) :
    symbolDistance code (code.set k x) = 1 := by
  rw [symbolDistance_eq_card, Finset.card_eq_one]
  refine ⟨k, Finset.ext fun m => ?_⟩
  simp only [Finset.mem_filter, Finset.mem_univ, true_and, Finset.mem_singleton]
  simp only [Fin.getElem_fin, Vector.getElem_set]
  by_cases hmk : m = k
  · subst hmk
    simpa using h.symm
  · simpa [hmk] using fun hkm => absurd (Fin.ext hkm).symm hmk

/-! ### Decoding a scanned codeword (R191) -/

theorem syndromeCheck_cnt (s : State) : (syndromeCheck s).cnt = s.cnt := by
  rw [syndromeCheck, State.setValid_cnt, State.setSyn_cnt]

theorem syndromeCheck_ovf (s : State) : (syndromeCheck s).ovf = s.ovf := by
  rw [syndromeCheck, State.setValid_ovf, State.setSyn_ovf]

theorem syndromeCheck_id (s : State) : (syndromeCheck s).id = s.id := by rw [syndromeCheck_eq]

section decode

variable {s : State} (ht : s.tag = 0#2) (hc : s.cnt = 17#5)
include ht hc

theorem decodeCw_of_invalid (hv : validFlag (syndromes s.cw) = 0#1) : decodeCw s = (syndromeCheck s).setTag 2#2 :=
  decodeCw_of_pEnd_invalid (pEnd_of_invalid ht hc ((syndromeCheck_valid s).trans hv))

theorem decodeCw_of_valid (hv : validFlag (syndromes s.cw) = 1#1) :
    (decodeCw s).id = BitVec.ofNat 64 (cwSum s.cw) ∧
      (decodeCw s).status = ((syndromeCheck s).setOvf (ovfFlag (cwSum s.cw))).status := by
  have hpend := pEnd_of_valid ht hc ((syndromeCheck_valid s).trans hv)
  have htag : (pEnd s).tag = 0#2 := by rw [hpend, syndromeCheck_tag, ht]
  obtain ⟨n, d, -, h⟩ := decToId_b32To10_eq (syndromeCheck s)
  rw [syndromeCheck_cw, ← ovfFlag_eq] at h
  rw [decodeCw_of_pEnd_clear htag, hpend, h, State.setOvf_status]
  exact ⟨rfl, rfl⟩

end decode

theorem execAll_scan_decode (cs : List CharCode) (u : State) :
    execAll (scan cs ++ [.decode]) u = .next (decodeCw (scanState cs u)) := by
  rw [execAll_append _ (execAll_scan cs u)]
  exact execAll_singleton (exec_decode _)

/-! ### The statements -/

/-- Settles O37: `ENCODE` overwrites the data in `CW` with the identifier's digits, and the parity with theirs. -/
theorem encodedStringDependsOnIdAlone : Obligations.EncodedStringDependsOnIdAlone := by
  intro s s' hid
  have hdata : ∀ k : Fin 17, k.val < 13 → (idInBothBases s).cw[k] = (idInBothBases s').cw[k] := by
    intro k hk
    show (writeData (lsfDigits 32 s.id.toNat) s.cw)[k] = (writeData (lsfDigits 32 s'.id.toNat) s'.cw)[k]
    rw [hid]
    exact writeData_data_congr _ s.cw s'.cw k hk
  have hparity := parityOf_congr hdata
  have hcw : (encodeId s).cw = (encodeId s').cw := by
    rw [encodeId_cw, encodeId_cw, hparity, writeParity_congr _ hdata]
  refine ⟨encodeId s, encodeId s', exec_encode s, exec_encode s', ?_, hcw, ?_, ?_, ?_, ?_⟩
  · rw [encodeId_str, encodeId_str, hcw]
  · rw [encodeId_p, encodeId_p, hparity]
  · rw [encodeId_b32Len, encodeId_b32Len, hid]
  · rw [encodeId_dec, encodeId_dec, hid]
  · rw [encodeId_decLen, encodeId_decLen, hid]

/-- Settles O42: the string is scanned back into the codeword, which is valid and has the identifier's value. -/
theorem decodeOfEncodeIsTheIdentifier : Obligations.DecodeOfEncodeIsTheIdentifier := by
  intro s u
  obtain ⟨htag, hcnt, hcw⟩ := scanState_displayString (encodeId s).cw u
  obtain ⟨hid, hstatus⟩ := decodeCw_of_valid htag hcnt (hcw.symm ▸ encodeId_valid s)
  rw [hcw, cwSum_encodeId] at hid hstatus
  refine ⟨encodeId s, _, exec_encode s, execAll_scan_decode _ u, ?_⟩
  rw [encodeId_str]
  refine ⟨?_, ?_, ?_, ?_, ?_⟩
  · rw [tag_congr hstatus, State.setOvf_tag, syndromeCheck_tag, htag]
  · rw [valid_congr hstatus, State.setOvf_valid, syndromeCheck_valid, hcw, encodeId_valid]
  · rw [ovf_congr hstatus, State.setOvf_ovf, ovfFlag_id]
  · rw [cnt_congr hstatus, State.setOvf_cnt, syndromeCheck_cnt, hcnt]
  · rw [hid, BitVec.ofNat_toNat, BitVec.setWidth_eq]

/-- Settles O43: the changed string is that of a codeword at distance 1 from a valid one. -/
theorem oneChangedCharacterIsInvalid : Obligations.OneChangedCharacterIsInvalid := by
  intro s u t n c ht hn hc hne
  cases ht
  rw [encodeId_str] at hn hne ⊢
  have hvalid := encodeId_valid s
  generalize (encodeId s).cw = code at hn hne hvalid ⊢
  obtain ⟨slot, hslot⟩ := exists_slot n
  have hchar : (displayString code)[n] = slotChar code slot := displayString_getElem n.isLt hslot
  rw [hchar] at hn hne
  cases slot with
  | none =>
    have hsep : recognized sepCode = false := by decide
    exact absurd hn (Bool.eq_false_iff.mp hsep)
  | some d =>
    obtain ⟨x, hx⟩ := Option.isSome_iff_exists.mp ((recognized_eq_isSome c).symm.trans hc)
    have hcx : alpha x = c := Option.some.inj ((alphaTable_getElem? x).symm.trans (indexOf_eq_some_iff.mp hx))
    have hxne : x ≠ code[perm d] := fun h => hne (hcx.symm.trans (congrArg alpha h))
    have hdist := symbolDistance_set code (perm d) hxne
    rw [← hcx, displayString_set code x hslot]
    obtain ⟨htag, hcnt, hcw⟩ := scanState_displayString (code.set (perm d) x) u
    have hinvalid : validFlag (syndromes (scanState (displayString (code.set (perm d) x)).toList u).cw) = 0#1 := by
      rw [hcw]
      exact eq_zero_of_ne_one fun h => absurd (symbolDistance_eq_zero_of_valid hvalid h (by omega)) (by omega)
    obtain ⟨hframe, -, -, -, hovf, -, -⟩ := scanned_scanState (displayString (code.set (perm d) x)).toList u
    refine ⟨_, (execAll_scan_decode _ u).trans (congrArg _ (decodeCw_of_invalid htag hcnt hinvalid)),
      State.setTag_tag _ _, ?_, ?_, ?_, ?_, ?_, ?_⟩
    · rw [State.setTag_cnt, syndromeCheck_cnt, hcnt]
    · rw [State.setTag_valid, syndromeCheck_valid, hinvalid]
    · rw [State.setTag_id, syndromeCheck_id, hframe]
    · rw [State.setTag_dec, syndromeCheck_eq, hframe]
    · rw [State.setTag_decLen, syndromeCheck_eq, hframe]
    · rw [State.setTag_ovf, syndromeCheck_ovf, hovf]

/-- Settles O44: `ENCODE` leaves `STATUS` alone and a valid codeword in `CW`. -/
theorem encodeDuringScanPassesTheCheck : Obligations.EncodeDuringScanPassesTheCheck := by
  intro s ht hc
  have htag : (encodeId s).tag = 0#2 := (tag_congr (encodeId_status s)).trans ht
  have hcnt : (encodeId s).cnt = 17#5 := (cnt_congr (encodeId_status s)).trans hc
  have hvalid : (syndromeCheck (encodeId s)).valid = 1#1 := (syndromeCheck_valid _).trans (encodeId_valid s)
  refine ⟨syndromeCheck (encodeId s), ?_, ?_, hvalid, ?_, ?_⟩
  · rw [execAll_cons _ (exec_encode s), ← pEnd_of_valid htag hcnt hvalid]
    exact execAll_singleton (exec_pend _)
  · rw [syndromeCheck_tag, htag]
  · rw [syndromeCheck_cnt, hcnt]
  · rw [syndromeCheck_id, encodeId_id]

end Sys2Proof.Machine
end

section
/-! PROOFS. `spec/10_state.md` R47 with R26, R28 to R31: no command reads a result register. Two runs side by side, from
states that agree on the registers some command reads, are followed update by update (`SameEffect`): each update of both
runs writes one value, computed from those registers. -/

namespace Sys2Proof.Machine

/-- Of two runs, from `s` to `t` and from `s'` to `t'`: they agree on the registers that commands read, and have done
the same to every other register. -/
structure SameEffect (s s' t t' : State) : Prop where
  read : agreeOnRead t t'
  res : sameOrKept State.res s s' t t'
  str : sameOrKept State.str s s' t t'
  p : sameOrKept State.p s s' t t'
  syn : sameOrKept State.syn s s' t t'
  b32Len : sameOrKept State.b32Len s s' t t'
  cmd : t.cmd = s.cmd
  cmd' : t'.cmd = s'.cmd

namespace SameEffect

theorem refl {s s' : State} (h : agreeOnRead s s') : SameEffect s s' s s' :=
  ⟨h, .inr ⟨rfl, rfl⟩, .inr ⟨rfl, rfl⟩, .inr ⟨rfl, rfl⟩, .inr ⟨rfl, rfl⟩, .inr ⟨rfl, rfl⟩, rfl, rfl⟩

variable {s s' t t' : State} (h : SameEffect s s' t t')
include h

/-! ### The registers both runs read -/

theorem id_eq : t.id = t'.id := by
  obtain ⟨hid, -, -, -, -, -⟩ := h.read
  exact hid

theorem dflt_eq : t.dflt = t'.dflt := by
  obtain ⟨-, hdflt, -, -, -, -⟩ := h.read
  exact hdflt

theorem decDigits_eq : decDigits t = decDigits t' := by
  obtain ⟨-, -, hlen, hdec, -, -⟩ := h.read
  rw [decDigits, decDigits, hlen, hdec]

theorem decLegal_eq : decLegal t = decLegal t' := by
  obtain ⟨-, -, hlen, -, -, -⟩ := h.read
  rw [decLegal, decLegal, hlen, h.decDigits_eq]

theorem decValue_eq : decValue t = decValue t' := by
  rw [decValue, decValue, h.decDigits_eq]

theorem cw_eq : t.cw = t'.cw := by
  obtain ⟨-, -, -, -, hcw, -⟩ := h.read
  exact hcw

theorem status_eq : t.status = t'.status := by
  obtain ⟨-, -, -, -, -, hstatus⟩ := h.read
  exact hstatus

/-! ### One update in both runs -/

theorem setStatus {w w' : BitVec 16} (hw : w = w') : SameEffect s s' (t.setStatus w) (t'.setStatus w') := by
  obtain ⟨⟨hid, hdflt, hlen, hdec, hcw, -⟩, hres, hstr, hp, hsyn, hb32Len, hcmd, hcmd'⟩ := h
  exact ⟨⟨hid, hdflt, hlen, hdec, hcw, hw⟩, hres, hstr, hp, hsyn, hb32Len, hcmd, hcmd'⟩

theorem setId {v v' : BitVec 64} (hv : v = v') : SameEffect s s' (t.setId v) (t'.setId v') := by
  obtain ⟨⟨-, hdflt, hlen, hdec, hcw, hstatus⟩, hres, hstr, hp, hsyn, hb32Len, hcmd, hcmd'⟩ := h
  exact ⟨⟨hv, hdflt, hlen, hdec, hcw, hstatus⟩, hres, hstr, hp, hsyn, hb32Len, hcmd, hcmd'⟩

theorem setCw {v v' : Vector Sym 17} (hv : v = v') : SameEffect s s' (t.setCw v) (t'.setCw v') := by
  obtain ⟨⟨hid, hdflt, hlen, hdec, -, hstatus⟩, hres, hstr, hp, hsyn, hb32Len, hcmd, hcmd'⟩ := h
  exact ⟨⟨hid, hdflt, hlen, hdec, hv, hstatus⟩, hres, hstr, hp, hsyn, hb32Len, hcmd, hcmd'⟩

theorem setRes {v v' : BitVec 8} (hv : v = v') : SameEffect s s' (t.setRes v) (t'.setRes v') := by
  obtain ⟨hread, -, hstr, hp, hsyn, hb32Len, hcmd, hcmd'⟩ := h
  exact ⟨hread, .inl hv, hstr, hp, hsyn, hb32Len, hcmd, hcmd'⟩

theorem setStr {v v' : Vector CharCode 20} (hv : v = v') : SameEffect s s' (t.setStr v) (t'.setStr v') := by
  obtain ⟨hread, hres, -, hp, hsyn, hb32Len, hcmd, hcmd'⟩ := h
  exact ⟨hread, hres, .inl hv, hp, hsyn, hb32Len, hcmd, hcmd'⟩

theorem setP {v v' : Vector Sym 4} (hv : v = v') : SameEffect s s' (t.setP v) (t'.setP v') := by
  obtain ⟨hread, hres, hstr, -, hsyn, hb32Len, hcmd, hcmd'⟩ := h
  exact ⟨hread, hres, hstr, .inl hv, hsyn, hb32Len, hcmd, hcmd'⟩

theorem setSyn {v v' : Vector Sym 4} (hv : v = v') : SameEffect s s' (t.setSyn v) (t'.setSyn v') := by
  obtain ⟨hread, hres, hstr, hp, -, hb32Len, hcmd, hcmd'⟩ := h
  exact ⟨hread, hres, hstr, hp, .inl hv, hb32Len, hcmd, hcmd'⟩

theorem setB32Len {v v' : BitVec 4} (hv : v = v') : SameEffect s s' (t.setB32Len v) (t'.setB32Len v') := by
  obtain ⟨hread, hres, hstr, hp, hsyn, -, hcmd, hcmd'⟩ := h
  exact ⟨hread, hres, hstr, hp, hsyn, .inl hv, hcmd, hcmd'⟩

theorem writeDecimal {ds ds' : List Nat} (hds : ds = ds') :
    SameEffect s s' (writeDecimal ds t) (Machine.writeDecimal ds' t') := by
  subst hds
  obtain ⟨⟨hid, hdflt, -, -, hcw, hstatus⟩, hres, hstr, hp, hsyn, hb32Len, hcmd, hcmd'⟩ := h
  exact ⟨⟨hid, hdflt, rfl, rfl, hcw, hstatus⟩, hres, hstr, hp, hsyn, hb32Len, hcmd, hcmd'⟩

/-- A field of `STATUS` written in both runs. -/
theorem setField (lo n : Nat) {v v' : BitVec n} (hv : v = v') :
    SameEffect s s' (t.setStatus (setField t.status lo n v)) (t'.setStatus (Machine.setField t'.status lo n v')) :=
  h.setStatus (by rw [h.status_eq, hv])

theorem raiseFault (k : FaultKind) : SameEffect s s' (raiseFault k t) (Machine.raiseFault k t') := by
  rw [Machine.raiseFault, Machine.raiseFault, fault_congr h.status_eq]
  split
  · exact h.setField 5 2 rfl
  · exact h

/-! ### The effects of the commands -/

theorem idToDec : SameEffect s s' (idToDec t) (Machine.idToDec t') :=
  h.writeDecimal (by rw [h.id_eq])

theorem decToId : SameEffect s s' (decToId t) (Machine.decToId t') := by
  rw [Machine.decToId, Machine.decToId, h.decLegal_eq, h.decValue_eq]
  split
  · exact (h.setId rfl).setField 3 1 rfl
  · exact h.raiseFault _

theorem b10To32 : SameEffect s s' (b10To32 t) (Machine.b10To32 t') := by
  rw [Machine.b10To32, Machine.b10To32, h.decLegal_eq, h.decValue_eq, h.decDigits_eq, h.cw_eq]
  split
  · exact (h.setCw rfl).setB32Len rfl
  · exact h.raiseFault _

theorem b32To10 : SameEffect s s' (b32To10 t) (Machine.b32To10 t') :=
  h.writeDecimal (by rw [h.cw_eq])

theorem rsPar : SameEffect s s' (rsPar t) (Machine.rsPar t') :=
  (h.setP (by rw [h.cw_eq])).setCw (by rw [h.cw_eq])

theorem syndromeCheck : SameEffect s s' (syndromeCheck t) (Machine.syndromeCheck t') :=
  (h.setSyn (by rw [h.cw_eq])).setField 2 1 (by rw [h.cw_eq])

theorem fmtStr : SameEffect s s' (fmtStr t) (Machine.fmtStr t') :=
  h.setStr (by rw [h.cw_eq])

theorem pBegin : SameEffect s s' (pBegin t) (Machine.pBegin t') :=
  ((h.setField 8 5 rfl).setField 0 2 rfl).setCw rfl

theorem putC (c : CharCode) : SameEffect s s' (putC c t) (Machine.putC c t') := by
  have htag := tag_congr h.status_eq
  have hcnt := cnt_congr h.status_eq
  by_cases ht : t'.tag = 0#2
  · cases hc : indexOf c with
    | none => rwa [putC_unrecognized hc, putC_unrecognized hc]
    | some x =>
      rcases Nat.lt_or_ge t'.cnt.toNat 17 with hroom | hfull
      · rw [putC_of_room (htag.trans ht) hc (hcnt ▸ hroom), putC_of_room ht hc hroom]
        exact (h.setCw (by simp only [h.cw_eq, hcnt])).setField 8 5 (by rw [hcnt])
      · rw [putC_of_full (htag.trans ht) hc (hcnt ▸ hfull), putC_of_full ht hc hfull]
        exact h.setField 0 2 rfl
  · rwa [putC_of_pending (htag ▸ ht), putC_of_pending ht]

theorem pEnd : SameEffect s s' (pEnd t) (Machine.pEnd t') := by
  rw [Machine.pEnd, Machine.pEnd, tag_congr h.status_eq, cnt_congr h.status_eq, valid_congr h.syndromeCheck.status_eq]
  split
  · exact h
  · split
    · exact h.setField 0 2 rfl
    · split
      · exact h.syndromeCheck.setField 0 2 rfl
      · exact h.syndromeCheck

theorem decodeCw : SameEffect s s' (decodeCw t) (Machine.decodeCw t') := by
  rw [Machine.decodeCw, Machine.decodeCw, tag_congr h.pEnd.status_eq]
  split
  · exact h.pEnd
  · exact h.pEnd.b32To10.decToId

theorem decodeOrDefault : SameEffect s s' (decodeOrDefault t) (Machine.decodeOrDefault t') := by
  rw [Machine.decodeOrDefault, Machine.decodeOrDefault, tag_congr h.decodeCw.status_eq, h.decodeCw.dflt_eq]
  split
  · exact (h.decodeCw.setId rfl).setField 0 2 rfl
  · exact h.decodeCw

end SameEffect

/-- Every command does the same to two states that agree on the registers some command reads. -/
theorem exec_sameEffect (i : Instr) {s s' : State} (hread : agreeOnRead s s') :
    ∃ t t', exec i s = .next t ∧ exec i s' = .next t' ∧ SameEffect s s' t t' := by
  have h := SameEffect.refl hread
  cases i with
  | nop => exact ⟨_, _, rfl, rfl, h⟩
  | gfadd a b => exact ⟨_, _, exec_gfadd a b s, exec_gfadd a b s', h.setRes rfl⟩
  | gfmul a b => exact ⟨_, _, exec_gfmul a b s, exec_gfmul a b s', h.setRes rfl⟩
  | gfexp a => exact ⟨_, _, exec_gfexp a s, exec_gfexp a s', h.setRes rfl⟩
  | gflog a =>
    by_cases ha : a = 0#5
    · subst ha
      exact ⟨_, _, exec_gflog_zero s, exec_gflog_zero s', h.raiseFault _⟩
    · obtain ⟨x, -, hx⟩ := exists_logOf_of_ne_zero ha
      exact ⟨_, _, exec_gflog_of_some s hx, exec_gflog_of_some s' hx, h.setRes rfl⟩
  | symch a => exact ⟨_, _, exec_symch a s, exec_symch a s', h.setRes rfl⟩
  | chsym c =>
    cases hc : indexOf c with
    | none => exact ⟨_, _, exec_chsym_of_none s hc, exec_chsym_of_none s' hc, h.setRes rfl⟩
    | some x => exact ⟨_, _, exec_chsym_of_some s hc, exec_chsym_of_some s' hc, h.setRes rfl⟩
  | permrd a =>
    rcases Nat.lt_or_ge a.toNat 17 with ha | ha
    · exact ⟨_, _, exec_permrd_of_lt a s ha, exec_permrd_of_lt a s' ha, h.setRes rfl⟩
    · exact ⟨_, _, exec_permrd_of_ge a s ha, exec_permrd_of_ge a s' ha, h.raiseFault _⟩
  | idtodec => exact ⟨_, _, rfl, rfl, h.idToDec⟩
  | dectoid => exact ⟨_, _, rfl, rfl, h.decToId⟩
  | b10to32 => exact ⟨_, _, rfl, rfl, h.b10To32⟩
  | b32to10 => exact ⟨_, _, rfl, rfl, h.b32To10⟩
  | rspar => exact ⟨_, _, rfl, rfl, h.rsPar⟩
  | rschk => exact ⟨_, _, exec_rschk s, exec_rschk s', h.syndromeCheck⟩
  | fmt => exact ⟨_, _, rfl, rfl, h.fmtStr⟩
  | pbegin => exact ⟨_, _, rfl, rfl, h.pBegin⟩
  | putc c => exact ⟨_, _, exec_putc c s, exec_putc c s', h.putC c⟩
  | pend => exact ⟨_, _, exec_pend s, exec_pend s', h.pEnd⟩
  | encode => exact ⟨_, _, exec_encode s, exec_encode s', h.idToDec.b10To32.rsPar.fmtStr⟩
  | decode => exact ⟨_, _, exec_decode s, exec_decode s', h.decodeCw⟩
  | decoded => exact ⟨_, _, exec_decoded s, exec_decoded s', h.decodeOrDefault⟩
  | clrst => exact ⟨_, _, exec_clrst s, exec_clrst s', (h.setField 0 2 rfl).setField 3 1 rfl⟩

/-- Settles O47: a composed command is a chain of updates, and each does the same in both runs. -/
theorem resultRegistersAreNeverRead : Obligations.ResultRegistersAreNeverRead := by
  intro i s s' hread
  obtain ⟨t, t', ht, ht', h⟩ := exec_sameEffect i hread
  exact ⟨t, t', ht, ht', h.read, h.res, h.str, h.p, h.syn, h.b32Len, h.cmd, h.cmd'⟩

end Sys2Proof.Machine
end
